-- ==== Sys2Proof/Word.lean ====
section
/-! DEFINITION. The one word of the core: the byte (00_scope.md, section 4). -/

namespace Sys2Proof

/-- A byte: an unsigned integer in `0..255`, bit 7 the most significant (00_scope.md, section 4). -/
abbrev Byte := BitVec 8

end Sys2Proof
end

