-- ==== Sys2Proof/Config.lean ====
section
/-! DEFINITION. The constant parameters of the core (00_scope.md R6), the profiles of R10, and the free values: what
the spec leaves open and no statement may rest on. -/

namespace Sys2Proof

/-- `CK_ALG`, the checksum algorithm (00_scope.md R6, 40_checksum.md). -/
inductive CkAlg
  | xor8
  | add8
  | crc8 (poly init : Byte)
deriving DecidableEq, Repr

/-- The configuration `cfg` (00_scope.md R6): constant for the life of the core. Which values are well formed is
`Config.wf` (R11). `MAX_PAYLOAD` is a number, not a byte, so that R11 item 3 is a condition. -/
structure Config where
  start : Byte
  stop : Byte
  esc : Byte
  escXor : Byte
  maxPayload : Nat
  ckAlg : CkAlg
deriving DecidableEq, Repr

/-- Profile P0, the spec's default (00_scope.md R10). -/
def Config.P0 : Config :=
  { start := 0x7E, stop := 0x7E, esc := 0x7D, escXor := 0x20, maxPayload := 254, ckAlg := .xor8 }

/-- Profile P1 (00_scope.md R10). -/
def Config.P1 : Config := { Config.P0 with stop := 0x81, ckAlg := .add8 }

/-- Profile P2 (00_scope.md R10). -/
def Config.P2 : Config := { Config.P0 with stop := 0x81, ckAlg := .crc8 0x07 0x00 }

/-- FREE VALUE (10_state.md R31, 93_implementation_defined.md U11: "any value"). What an element of `rx_buf` that has
not been written since `RESET` reads as: first argument the number of `RESET`s so far, second the index. -/
opaque Config.freeRxByte : Nat → Nat → Byte

/-- FREE VALUE (10_state.md R31, 93_implementation_defined.md U11: "any value"). The same for `tx_buf`. -/
opaque Config.freeTxByte : Nat → Nat → Byte

end Sys2Proof
end

