-- ==== Sys2Proof/Syntax.lean ====
section
/-! DEFINITION. The names of the spec's states, causes and inputs, the instruction type `Instr` (one constructor per row
of spec/opcode_table.json), the encoded words of its three encoded formats, and the inputs a step takes. -/

namespace Sys2Proof

/-- `rx_state` (10_state.md R17). `Done`, code 7, is never held between steps (42_decoder.md R107) and has no value. -/
inductive RxState
  | waitStart
  | readLength
  | readPayload
  | readEscapedByte
  | readChecksum
  | readEscapedChecksum
  | expectStop
deriving DecidableEq, Repr

/-- `tx_state` (10_state.md R24). -/
inductive TxState
  | idle
  | emitStart
  | emitLen
  | emitData
  | emitDataEsc2
  | emitCk
  | emitCkEsc2
  | emitStop
deriving DecidableEq, Repr

/-- The causes of 60_exceptions.md R126, in the order of their codes. -/
inductive Cause
  | lengthExceedsMax
  | sizeMismatch
  | unescapedMarker
  | badEscape
  | missingStop
  | checksumError
  | timeout
  | transportError
  | payloadTooLarge
  | txBusy
deriving DecidableEq, Repr

/-- The inputs of RX (10_state.md R14): the three results of the Byte Stream's `read_byte`. -/
inductive RxInput
  | byte (b : Byte)
  | timeout
  | ioError
deriving DecidableEq, Repr

/-- The inputs of TX (10_state.md R14). -/
inductive TxInput
  | send (p : List Byte)
  | take
  | writeError
deriving DecidableEq, Repr

/-- The two instances of the checksum accumulator (40_checksum.md R67): `rx_ck` and `tx_ck`. -/
inductive Accumulator
  | rx
  | tx
deriving DecidableEq, Repr

/-- The formats of spec/opcode_table.json (30_encoding.md R58, R64). -/
inductive Format
  | wire
  | rxin
  | txin
  | host
  | internal
  | pseudo
deriving DecidableEq, Repr

/-- The rows of spec/opcode_table.json, in the table's order, one constructor each. An operand `b` of a WIRE row is the
wire byte itself; rows whose byte is fixed by the configuration have none. -/
inductive Instr
  -- WIRE: what a wire byte means at a position (30_encoding.md R58)
  | sof
  | fill (b : Byte)
  | illLenMax (b : Byte)
  | illLenSize (b : Byte)
  | len (b : Byte)
  | esc
  | illMarkData (b : Byte)
  | data (b : Byte)
  | escdStart
  | escdStop
  | escdEsc
  | illEscData (b : Byte)
  | escCk
  | illMarkCk (b : Byte)
  | cks (b : Byte)
  | esckStart
  | esckStop
  | esckEsc
  | illEscCk (b : Byte)
  | eof
  | illStop (b : Byte)
  -- RXIN: the inputs of RX, the byte by state (30_encoding.md R64)
  | rxByteWaitStart (b : Byte)
  | rxByteReadLength (b : Byte)
  | rxByteReadPayload (b : Byte)
  | rxByteReadEscapedByte (b : Byte)
  | rxByteReadChecksum (b : Byte)
  | rxByteReadEscapedChecksum (b : Byte)
  | rxByteExpectStop (b : Byte)
  | rxTimeout
  | rxIoerr
  | rxReserved3 (low : Byte)
  -- TXIN: the inputs of TX, `Take` by state (30_encoding.md R64)
  | txTakeIdle
  | txTakeEmitStart
  | txTakeEmitLen
  | txTakeEmitData
  | txTakeEmitDataEsc2
  | txTakeEmitCk
  | txTakeEmitCkEsc2
  | txTakeEmitStop
  | txSend (p : List Byte)
  | txWerr
  | txReserved3
  -- HOST
  | cfgSetn (n : Byte)
  | reset
  | encodeFrame (p : List Byte)
  -- INTERNAL
  | ckInit (acc : Accumulator)
  | ckUpdateXor8 (acc : Accumulator) (v : Byte)
  | ckUpdateAdd8 (acc : Accumulator) (v : Byte)
  | ckUpdateCrc8 (acc : Accumulator) (poly v : Byte)
  | crcBit (poly a : Byte)
  | ckFold (p : List Byte)
  | clear
  | resync (b : Byte) (cause : Cause)
  | store (v : Byte)
  | done
  | advance
  -- PSEUDO
  | frame (p : List Byte)
  | takeN (n : Nat)
  | sendAll (p : List Byte)
deriving DecidableEq, Repr

/-- An encoded word of the table: a wire byte, a word `RXIN[9:0]`, or a kind `TXIN[1:0]` with the payload of `Send` as
a side operand (30_encoding.md R58, R64); `other` is a bit string of a size or value no format of the table has. -/
inductive Code
  | wire (b : Byte)
  | rxin (w : BitVec 10)
  | txin (w : BitVec 2) (p : List Byte)
  | other (nbits w : Nat)
deriving DecidableEq, Repr

/-- One element of the environment's input sequence. `rx` and `tx` are the inputs of 10_state.md R14 as the sum type
30_encoding.md R64 asks for; `call` is an operation of the table named directly, the way `RESET`, `CFG.SETN` and the
pseudo-tokens of 30_encoding.md R65 and R66 are; `code` is an encoded word, decoded when it is taken. The trace tokens of
30_encoding.md R65 are such inputs: two digits are `rx (byte b)`, `T` is `rx timeout`, `X` is `rx ioError`, `SEND`,
`TAKE`, `WERR` are `tx`, `SETN`, `RESET` are `call`. -/
inductive Input
  | rx (i : RxInput)
  | tx (i : TxInput)
  | call (i : Instr)
  | code (c : Code)
deriving DecidableEq, Repr

end Sys2Proof
end

