-- ==== Sys2Proof/Machine/Operands.lean ====
section
/-! DEFINITION. The operand forms of the wire format: reserved values, escaped forms, stuffing, the well-formed
configurations, and the conditions by which the WIRE rows of the table tell their bytes apart. -/

namespace Sys2Proof

/-- `b in RESERVED`, `RESERVED = {START, STOP, ESC}` (00_scope.md R7). -/
def Config.isReserved (c : Config) (b : Byte) : Bool := b == c.start || b == c.stop || b == c.esc

/-- `ENC(v) = v xor ESC_XOR` (00_scope.md R8). -/
def Config.enc (c : Config) (v : Byte) : Byte := v ^^^ c.escXor

/-- `DEC(b) = b xor ESC_XOR` (00_scope.md R8). -/
def Config.dec (c : Config) (b : Byte) : Byte := b ^^^ c.escXor

/-- The algorithm's part of 00_scope.md R11 item 4: bit 0 of `POLY` is 1. -/
def CkAlg.wf : CkAlg → Bool
  | .xor8 => true
  | .add8 => true
  | .crc8 poly _ => poly.getLsbD 0

/-- `WF(cfg)` (00_scope.md R11), items 1 to 4 in order. -/
def Config.wf (c : Config) : Bool :=
  (c.esc != c.start && c.esc != c.stop)
  && (!c.isReserved (c.enc c.start) && !c.isReserved (c.enc c.stop) && !c.isReserved (c.enc c.esc))
  && decide (c.maxPayload ≤ 255)
  && c.ckAlg.wf

/-- The stuffing function `esc` (30_encoding.md R55). -/
def Config.stuff (c : Config) (v : Byte) : List Byte :=
  if c.isReserved v then [c.esc, c.enc v] else [v]

/-- `concat_map esc p` (41_encoder.md R77, source step 4). -/
def Config.stuffAll (c : Config) : List Byte → List Byte
  | [] => []
  | v :: p => c.stuff v ++ c.stuffAll p

/-- How many bytes of `p` are in `RESERVED`: the `k` of 30_encoding.md R48 and R57. -/
def Config.countReserved (c : Config) : List Byte → Nat
  | [] => 0
  | v :: p => (if c.isReserved v then 1 else 0) + c.countReserved p

/-- `b > MAX_PAYLOAD`, as numbers (42_decoder.md R100). -/
def Config.exceedsMax (c : Config) (b : Byte) : Bool := decide (c.maxPayload < b.toNat)

/-- `b = START or b = STOP`, the raw markers (42_decoder.md R101, R104). -/
def Config.isMarker (c : Config) (b : Byte) : Bool := b == c.start || b == c.stop

/-- The condition `value` of a WIRE row of the table on its operand (30_encoding.md R58), and for `ESCD.STOP` and
`ESCK.STOP` that they are rows of their own only when `STOP ≠ START`. Rows of other formats have no such condition. -/
def Instr.valueHolds (c : Config) (rxN : Byte) : Instr → Bool
  | .sof => true
  | .fill b => b != c.start
  | .illLenMax b => c.exceedsMax b
  | .illLenSize b => !c.exceedsMax b && b != rxN
  | .len b => !c.exceedsMax b && b == rxN
  | .esc => true
  | .illMarkData b => c.isMarker b
  | .data b => !c.isReserved b
  | .escdStart => true
  | .escdStop => c.stop != c.start
  | .escdEsc => true
  | .illEscData b => !c.isReserved (c.dec b)
  | .escCk => true
  | .illMarkCk b => c.isMarker b
  | .cks b => !c.isReserved b
  | .esckStart => true
  | .esckStop => c.stop != c.start
  | .esckEsc => true
  | .illEscCk b => !c.isReserved (c.dec b)
  | .eof => true
  | .illStop b => b != c.stop
  | .rxByteWaitStart _ => true
  | .rxByteReadLength _ => true
  | .rxByteReadPayload _ => true
  | .rxByteReadEscapedByte _ => true
  | .rxByteReadChecksum _ => true
  | .rxByteReadEscapedChecksum _ => true
  | .rxByteExpectStop _ => true
  | .rxTimeout => true
  | .rxIoerr => true
  | .rxReserved3 _ => true
  | .txTakeIdle => true
  | .txTakeEmitStart => true
  | .txTakeEmitLen => true
  | .txTakeEmitData => true
  | .txTakeEmitDataEsc2 => true
  | .txTakeEmitCk => true
  | .txTakeEmitCkEsc2 => true
  | .txTakeEmitStop => true
  | .txSend _ => true
  | .txWerr => true
  | .txReserved3 => true
  | .cfgSetn _ => true
  | .reset => true
  | .encodeFrame _ => true
  | .ckInit _ => true
  | .ckUpdateXor8 _ _ => true
  | .ckUpdateAdd8 _ _ => true
  | .ckUpdateCrc8 _ _ _ => true
  | .crcBit _ _ => true
  | .ckFold _ => true
  | .clear => true
  | .resync _ _ => true
  | .store _ => true
  | .done => true
  | .advance => true
  | .frame _ => true
  | .takeN _ => true
  | .sendAll _ => true

/-- The causes of a structural violation, those `resync` is used with: codes 1 to 5 (60_exceptions.md R126, R141). -/
def Cause.isStructural : Cause → Bool
  | .lengthExceedsMax => true
  | .sizeMismatch => true
  | .unescapedMarker => true
  | .badEscape => true
  | .missingStop => true
  | .checksumError => false
  | .timeout => false
  | .transportError => false
  | .payloadTooLarge => false
  | .txBusy => false

end Sys2Proof
end

