-- ==== Sys2Proof/Machine/Flags.lean ====
section
/-! DEFINITION. The core has no flags and no condition codes (10_state.md R30). What is computed beside the data stands
here: the checksum accumulator (40_checksum.md) and the numeric codes of states, causes and events. -/

namespace Sys2Proof

/-! ## The checksum (40_checksum.md) -/

/-- `CK_INIT` (40_checksum.md R68). -/
def Config.ckInit (c : Config) : Byte :=
  match c.ckAlg with
  | .xor8 => 0x00
  | .add8 => 0x00
  | .crc8 _ init => init

/-- `CK_STEP` of `XOR8` (40_checksum.md R69). -/
def ckStepXor8 (acc v : Byte) : Byte := acc ^^^ v

/-- `CK_STEP` of `ADD8` (40_checksum.md R70): the sum modulo 256. -/
def ckStepAdd8 (acc v : Byte) : Byte := acc + v

/-- `crc_bit` (40_checksum.md R72). -/
def crcBit (poly a : Byte) : Byte := if a.getLsbD 7 then (a <<< 1) ^^^ poly else a <<< 1

/-- `n` applications of `crc_bit`. -/
def crcBits (poly : Byte) : Nat → Byte → Byte
  | 0, a => a
  | n + 1, a => crcBits poly n (crcBit poly a)

/-- `CK_STEP` of `CRC8` (40_checksum.md R71): eight shifts of `acc xor v`. -/
def ckStepCrc8 (poly acc v : Byte) : Byte := crcBits poly 8 (acc ^^^ v)

/-- `CK_STEP`, by `CK_ALG` (40_checksum.md R67, R69 to R71). -/
def Config.ckStep (c : Config) (acc v : Byte) : Byte :=
  match c.ckAlg with
  | .xor8 => ckStepXor8 acc v
  | .add8 => ckStepAdd8 acc v
  | .crc8 poly _ => ckStepCrc8 poly acc v

/-- One `CK.UPDATE` per byte from `acc`, first byte first. -/
def Config.ckFoldFrom (c : Config) : Byte → List Byte → Byte
  | acc, [] => acc
  | acc, v :: p => c.ckFoldFrom (c.ckStep acc v) p

/-- `CK_FOLD` (40_checksum.md R73). -/
def Config.ckFold (c : Config) (p : List Byte) : Byte := c.ckFoldFrom c.ckInit p

/-! ## Codes -/

/-- The code of `rx_state` (10_state.md R17), 3 bits. -/
def RxState.code : RxState → BitVec 3
  | .waitStart => 0
  | .readLength => 1
  | .readPayload => 2
  | .readEscapedByte => 3
  | .readChecksum => 4
  | .readEscapedChecksum => 5
  | .expectStop => 6

/-- The code of `tx_state` (10_state.md R24), 3 bits. -/
def TxState.code : TxState → BitVec 3
  | .idle => 0
  | .emitStart => 1
  | .emitLen => 2
  | .emitData => 3
  | .emitDataEsc2 => 4
  | .emitCk => 5
  | .emitCkEsc2 => 6
  | .emitStop => 7

/-- The code of a cause (60_exceptions.md R126). -/
def Cause.code : Cause → Nat
  | .lengthExceedsMax => 1
  | .sizeMismatch => 2
  | .unescapedMarker => 3
  | .badEscape => 4
  | .missingStop => 5
  | .checksumError => 6
  | .timeout => 7
  | .transportError => 8
  | .payloadTooLarge => 9
  | .txBusy => 10

end Sys2Proof
end

