-- ==== Sys2Proof/WellFormed.lean ====
section
/-! DEFINITION. Which instructions are well formed, and which format a row of the table has. -/

namespace Sys2Proof

/-- The format of a row (spec/opcode_table.json). -/
def Instr.format : Instr → Format
  | .sof => .wire
  | .fill _ => .wire
  | .illLenMax _ => .wire
  | .illLenSize _ => .wire
  | .len _ => .wire
  | .esc => .wire
  | .illMarkData _ => .wire
  | .data _ => .wire
  | .escdStart => .wire
  | .escdStop => .wire
  | .escdEsc => .wire
  | .illEscData _ => .wire
  | .escCk => .wire
  | .illMarkCk _ => .wire
  | .cks _ => .wire
  | .esckStart => .wire
  | .esckStop => .wire
  | .esckEsc => .wire
  | .illEscCk _ => .wire
  | .eof => .wire
  | .illStop _ => .wire
  | .rxByteWaitStart _ => .rxin
  | .rxByteReadLength _ => .rxin
  | .rxByteReadPayload _ => .rxin
  | .rxByteReadEscapedByte _ => .rxin
  | .rxByteReadChecksum _ => .rxin
  | .rxByteReadEscapedChecksum _ => .rxin
  | .rxByteExpectStop _ => .rxin
  | .rxTimeout => .rxin
  | .rxIoerr => .rxin
  | .rxReserved3 _ => .rxin
  | .txTakeIdle => .txin
  | .txTakeEmitStart => .txin
  | .txTakeEmitLen => .txin
  | .txTakeEmitData => .txin
  | .txTakeEmitDataEsc2 => .txin
  | .txTakeEmitCk => .txin
  | .txTakeEmitCkEsc2 => .txin
  | .txTakeEmitStop => .txin
  | .txSend _ => .txin
  | .txWerr => .txin
  | .txReserved3 => .txin
  | .cfgSetn _ => .host
  | .reset => .host
  | .encodeFrame _ => .host
  | .ckInit _ => .internal
  | .ckUpdateXor8 _ _ => .internal
  | .ckUpdateAdd8 _ _ => .internal
  | .ckUpdateCrc8 _ _ _ => .internal
  | .crcBit _ _ => .internal
  | .ckFold _ => .internal
  | .clear => .internal
  | .resync _ _ => .internal
  | .store _ => .internal
  | .done => .internal
  | .advance => .internal
  | .frame _ => .pseudo
  | .takeN _ => .pseudo
  | .sendAll _ => .pseudo

/-- An input kind the core has: kinds 3 of `RXIN` and `TXIN` are unused and "not an input of the core"
(30_encoding.md R64, 93_implementation_defined.md U14). -/
def Instr.kindExists : Instr → Bool
  | .rxReserved3 _ => false
  | .txReserved3 => false
  | _ => true

/-- `resync` is the procedure of the structural violations only (60_exceptions.md R141). -/
def Instr.causeFits : Instr → Bool
  | .resync _ cause => cause.isStructural
  | _ => true

/-- A generator polynomial has bit 0 set (00_scope.md R11 item 4, 40_checksum.md R76). -/
def Instr.polyFits : Instr → Bool
  | .ckUpdateCrc8 _ poly _ => poly.getLsbD 0
  | .crcBit poly _ => poly.getLsbD 0
  | _ => true

/-- The well-formed instructions under a configuration and a value of `RX_N`: the row exists as an operation of the
core, its operand meets the row's condition, its cause and its polynomial are ones the operation is used with. -/
def Instr.wellFormed (c : Config) (rxN : Byte) (i : Instr) : Bool :=
  i.kindExists && i.valueHolds c rxN && i.causeFits && i.polyFits

end Sys2Proof
end

