-- ==== Sys2Proof/Decode.lean ====
section
/-! DEFINITION. From an encoded word to the row it is, and back. Which row a word is depends on the state of the agent it
is given to (30_encoding.md R58, spec/opcode_table.json), so the decoder takes that as a context. -/

namespace Sys2Proof

/-- Why a word is no row of the table. -/
inductive DecodeError
  /-- `RXIN[7:0]` is 0 when the kind is not `Byte` (30_encoding.md R64): a word that breaks this is none. -/
  | byteFieldNotZero
  /-- Only `Send` has a side operand (30_encoding.md R64). -/
  | strayPayload
  /-- No format of the table has words of this size or value. -/
  | noSuchFormat
deriving DecidableEq, Repr

/-- What decoding a word depends on: the configuration, `RX_N`, and the two state registers. -/
structure Context where
  cfg : Config
  rxN : Byte
  rxState : RxState
  txState : TxState
deriving DecidableEq, Repr

/-- The WIRE row a byte is at the position of `rx_state`, in the order in which the rows are tested
(30_encoding.md R58; the table's `test_order`). -/
def wireRow (x : Context) (b : Byte) : Instr :=
  match x.rxState with
  | .waitStart => if b = x.cfg.start then .sof else .fill b
  | .readLength =>
    if x.cfg.exceedsMax b then .illLenMax b
    else if b ≠ x.rxN then .illLenSize b
    else .len b
  | .readPayload =>
    if b = x.cfg.esc then .esc
    else if x.cfg.isMarker b then .illMarkData b
    else .data b
  | .readEscapedByte =>
    if b = x.cfg.enc x.cfg.start then .escdStart
    else if b = x.cfg.enc x.cfg.stop then .escdStop
    else if b = x.cfg.enc x.cfg.esc then .escdEsc
    else .illEscData b
  | .readChecksum =>
    if b = x.cfg.esc then .escCk
    else if x.cfg.isMarker b then .illMarkCk b
    else .cks b
  | .readEscapedChecksum =>
    if b = x.cfg.enc x.cfg.start then .esckStart
    else if b = x.cfg.enc x.cfg.stop then .esckStop
    else if b = x.cfg.enc x.cfg.esc then .esckEsc
    else .illEscCk b
  | .expectStop => if b = x.cfg.stop then .eof else .illStop b

/-- The RXIN row of an input of RX in a state (spec/opcode_table.json). -/
def rxRow (q : RxState) : RxInput → Instr
  | .byte b =>
    match q with
    | .waitStart => .rxByteWaitStart b
    | .readLength => .rxByteReadLength b
    | .readPayload => .rxByteReadPayload b
    | .readEscapedByte => .rxByteReadEscapedByte b
    | .readChecksum => .rxByteReadChecksum b
    | .readEscapedChecksum => .rxByteReadEscapedChecksum b
    | .expectStop => .rxByteExpectStop b
  | .timeout => .rxTimeout
  | .ioError => .rxIoerr

/-- The TXIN row of an input of TX in a state (spec/opcode_table.json). -/
def txRow (q : TxState) : TxInput → Instr
  | .take =>
    match q with
    | .idle => .txTakeIdle
    | .emitStart => .txTakeEmitStart
    | .emitLen => .txTakeEmitLen
    | .emitData => .txTakeEmitData
    | .emitDataEsc2 => .txTakeEmitDataEsc2
    | .emitCk => .txTakeEmitCk
    | .emitCkEsc2 => .txTakeEmitCkEsc2
    | .emitStop => .txTakeEmitStop
  | .send p => .txSend p
  | .writeError => .txWerr

/-- `RXIN[9:8]`, the kind (30_encoding.md R64). -/
def rxinKind (w : BitVec 10) : BitVec 2 := w.extractLsb' 8 2

/-- `RXIN[7:0]`, the byte (30_encoding.md R64). -/
def rxinByte (w : BitVec 10) : Byte := w.extractLsb' 0 8

/-- The row a word `RXIN[9:0]` is (30_encoding.md R64): kind 0 a byte, 1 `Timeout`, 2 `IoError`, 3 unused. -/
def decodeRxin (q : RxState) (w : BitVec 10) : Except DecodeError Instr :=
  if rxinKind w = 0 then .ok (rxRow q (.byte (rxinByte w)))
  else if rxinKind w = 3 then .ok (.rxReserved3 (rxinByte w))
  else if rxinByte w ≠ 0 then .error .byteFieldNotZero
  else if rxinKind w = 1 then .ok (rxRow q .timeout)
  else .ok (rxRow q .ioError)

/-- The row a kind `TXIN[1:0]` with its side operand is (30_encoding.md R64): 0 `Take`, 1 `Send`, 2 `WriteError`,
3 unused. -/
def decodeTxin (q : TxState) (w : BitVec 2) (p : List Byte) : Except DecodeError Instr :=
  if w = 1 then .ok (txRow q (.send p))
  else if p ≠ [] then .error .strayPayload
  else if w = 0 then .ok (txRow q .take)
  else if w = 2 then .ok (txRow q .writeError)
  else .ok .txReserved3

/-- The decoder: total, and rejecting by name. -/
def decode (x : Context) : Code → Except DecodeError Instr
  | .wire b => .ok (wireRow x b)
  | .rxin w => decodeRxin x.rxState w
  | .txin w p => decodeTxin x.txState w p
  | .other _ _ => .error .noSuchFormat

/-- The row that a step runs for an input. -/
def Input.row (x : Context) : Input → Except DecodeError Instr
  | .rx i => .ok (rxRow x.rxState i)
  | .tx i => .ok (txRow x.txState i)
  | .call i => .ok i
  | .code c => decode x c

/-! ## The encoder -/

/-- `RXIN[9:0]` of a kind and a byte (30_encoding.md R64). -/
def rxinWord (kind : BitVec 2) (b : Byte) : BitVec 10 := kind ++ b

/-- The word of a row under a configuration; none for the formats without encoding (30_encoding.md R58). -/
def encode (c : Config) : Instr → Option Code
  | .sof => some (.wire c.start)
  | .fill b => some (.wire b)
  | .illLenMax b => some (.wire b)
  | .illLenSize b => some (.wire b)
  | .len b => some (.wire b)
  | .esc => some (.wire c.esc)
  | .illMarkData b => some (.wire b)
  | .data b => some (.wire b)
  | .escdStart => some (.wire (c.enc c.start))
  | .escdStop => some (.wire (c.enc c.stop))
  | .escdEsc => some (.wire (c.enc c.esc))
  | .illEscData b => some (.wire b)
  | .escCk => some (.wire c.esc)
  | .illMarkCk b => some (.wire b)
  | .cks b => some (.wire b)
  | .esckStart => some (.wire (c.enc c.start))
  | .esckStop => some (.wire (c.enc c.stop))
  | .esckEsc => some (.wire (c.enc c.esc))
  | .illEscCk b => some (.wire b)
  | .eof => some (.wire c.stop)
  | .illStop b => some (.wire b)
  | .rxByteWaitStart b => some (.rxin (rxinWord 0 b))
  | .rxByteReadLength b => some (.rxin (rxinWord 0 b))
  | .rxByteReadPayload b => some (.rxin (rxinWord 0 b))
  | .rxByteReadEscapedByte b => some (.rxin (rxinWord 0 b))
  | .rxByteReadChecksum b => some (.rxin (rxinWord 0 b))
  | .rxByteReadEscapedChecksum b => some (.rxin (rxinWord 0 b))
  | .rxByteExpectStop b => some (.rxin (rxinWord 0 b))
  | .rxTimeout => some (.rxin (rxinWord 1 0))
  | .rxIoerr => some (.rxin (rxinWord 2 0))
  | .rxReserved3 low => some (.rxin (rxinWord 3 low))
  | .txTakeIdle => some (.txin 0 [])
  | .txTakeEmitStart => some (.txin 0 [])
  | .txTakeEmitLen => some (.txin 0 [])
  | .txTakeEmitData => some (.txin 0 [])
  | .txTakeEmitDataEsc2 => some (.txin 0 [])
  | .txTakeEmitCk => some (.txin 0 [])
  | .txTakeEmitCkEsc2 => some (.txin 0 [])
  | .txTakeEmitStop => some (.txin 0 [])
  | .txSend p => some (.txin 1 p)
  | .txWerr => some (.txin 2 [])
  | .txReserved3 => some (.txin 3 [])
  | .cfgSetn _ => none
  | .reset => none
  | .encodeFrame _ => none
  | .ckInit _ => none
  | .ckUpdateXor8 _ _ => none
  | .ckUpdateAdd8 _ _ => none
  | .ckUpdateCrc8 _ _ _ => none
  | .crcBit _ _ => none
  | .ckFold _ => none
  | .clear => none
  | .resync _ _ => none
  | .store _ => none
  | .done => none
  | .advance => none
  | .frame _ => none
  | .takeN _ => none
  | .sendAll _ => none

/-- The state of RX a row of the table belongs to (its `rx_state`); none for rows of any state. -/
def Instr.rxPosition : Instr → Option RxState
  | .sof => some .waitStart
  | .fill _ => some .waitStart
  | .illLenMax _ => some .readLength
  | .illLenSize _ => some .readLength
  | .len _ => some .readLength
  | .esc => some .readPayload
  | .illMarkData _ => some .readPayload
  | .data _ => some .readPayload
  | .escdStart => some .readEscapedByte
  | .escdStop => some .readEscapedByte
  | .escdEsc => some .readEscapedByte
  | .illEscData _ => some .readEscapedByte
  | .escCk => some .readChecksum
  | .illMarkCk _ => some .readChecksum
  | .cks _ => some .readChecksum
  | .esckStart => some .readEscapedChecksum
  | .esckStop => some .readEscapedChecksum
  | .esckEsc => some .readEscapedChecksum
  | .illEscCk _ => some .readEscapedChecksum
  | .eof => some .expectStop
  | .illStop _ => some .expectStop
  | .rxByteWaitStart _ => some .waitStart
  | .rxByteReadLength _ => some .readLength
  | .rxByteReadPayload _ => some .readPayload
  | .rxByteReadEscapedByte _ => some .readEscapedByte
  | .rxByteReadChecksum _ => some .readChecksum
  | .rxByteReadEscapedChecksum _ => some .readEscapedChecksum
  | .rxByteExpectStop _ => some .expectStop
  | _ => none

/-- The state of TX a row of the table belongs to (its `tx_state`); none for rows of any state. -/
def Instr.txPosition : Instr → Option TxState
  | .txTakeIdle => some .idle
  | .txTakeEmitStart => some .emitStart
  | .txTakeEmitLen => some .emitLen
  | .txTakeEmitData => some .emitData
  | .txTakeEmitDataEsc2 => some .emitDataEsc2
  | .txTakeEmitCk => some .emitCk
  | .txTakeEmitCkEsc2 => some .emitCkEsc2
  | .txTakeEmitStop => some .emitStop
  | _ => none

/-- The context is one at which the row can be met: each agent stands where the row says. -/
def Instr.standsIn (x : Context) (i : Instr) : Bool :=
  (match i.rxPosition with
   | some q => x.rxState == q
   | none => true)
  && (match i.txPosition with
      | some q => x.txState == q
      | none => true)

/-! ## Words as spec/opcode_table.json numbers them -/

/-- The word of `nbits` bits with value `w`. The table's three encodings share sizes: a word of 16 bits is `RXIN`; of
one byte, the values 0 to 3 are `TXIN` and the others a wire byte (log entry 7). The table gives the payload of `Send`
no bits: it is empty. -/
def tableCode (nbits w : Nat) : Code :=
  if nbits = 16 ∨ nbits = 10 then
    if w < 1024 then .rxin (BitVec.ofNat 10 w) else .other nbits w
  else if nbits = 8 ∨ nbits = 2 then
    if w < 4 then .txin (BitVec.ofNat 2 w) []
    else if nbits = 8 ∧ w < 256 then .wire (BitVec.ofNat 8 w)
    else .other nbits w
  else .other nbits w

/-- The position at which a table word is read (log entry 5): for a wire byte, that of the first WIRE row of the table
whose `match` is the byte, and `WaitStart` when none has it. -/
def tablePosition : Code → RxState
  | .wire b =>
    if b = Config.P0.start then .waitStart
    else if Config.P0.exceedsMax b then .readLength
    else if b = Config.P0.esc then .readPayload
    else if Config.P0.isReserved (Config.P0.dec b) then .readEscapedByte
    else .waitStart
  | .rxin _ => .waitStart
  | .txin _ _ => .waitStart
  | .other _ _ => .waitStart

/-- The context in which a table word is read: profile P0, as the table's `match` and `mask` are (30_encoding.md R58),
`RX_N` and the states as after `RESET`, but for the position of a wire byte. -/
def tableContext (c : Code) : Context :=
  { cfg := Config.P0, rxN := 0, rxState := tablePosition c, txState := .idle }

/-- The instruction the decoder reads from a word of spec/opcode_table.json. -/
def decodeTableWord (nbits w : Nat) : Option Instr :=
  match decode (tableContext (tableCode nbits w)) (tableCode nbits w) with
  | .ok i => some i
  | .error _ => none

end Sys2Proof
end

