-- ==== Sys2Proof/Machine/State.lean ====
section
/-! DEFINITION. The state of the machine (10_state.md), the reasons a step can stop, and the state after reset. -/

namespace Sys2Proof.Machine

/-- One of the core's two buffers (20_memory.md R32): the cells written since `RESET`, as (index, byte) pairs, indices
strictly rising (`Memory.wf`). An index that is not listed holds no written byte. -/
abbrev Memory := List Host.Cell

/-- The registers and the buffer of RX (10_state.md R17 to R22). -/
structure RxRegs where
  /-- `rx_state`, R17. -/
  state : RxState
  /-- `rx_len`, R18. -/
  len : Byte
  /-- `rx_idx`, R19. -/
  idx : Byte
  /-- `rx_ck`, R21. -/
  ck : Byte
  /-- `rx_ckrx`, R22. -/
  ckrx : Byte
  /-- `rx_buf`, R20. -/
  buf : Memory
  /-- The model's own: the number of `RESET`s so far, which selects the free values of unwritten elements. -/
  epoch : Nat
deriving DecidableEq, Repr

/-- The registers and the buffer of TX (10_state.md R24 to R27). -/
structure TxRegs where
  /-- `tx_state`, R24. -/
  state : TxState
  /-- `tx_len`, R25. -/
  len : Byte
  /-- `tx_idx`, R25. -/
  idx : Byte
  /-- `tx_ck`, R27. -/
  ck : Byte
  /-- `tx_buf`, R26. -/
  buf : Memory
  /-- The model's own, as in `RxRegs`. -/
  epoch : Nat
deriving DecidableEq, Repr

/-- The RX event output (60_exceptions.md R127): kinds 0, 1, 2. -/
inductive RxEvent
  | none
  | frameOk (payload : List Byte)
  | drop (cause : Cause)
deriving DecidableEq, Repr

/-- The TX event output (60_exceptions.md R127): kinds 0, 1, 2. -/
inductive TxEvent
  | none
  | txDone
  | txError (cause : Cause)
deriving DecidableEq, Repr

/-- The result of an operation of the table that is a pure function: `encode_frame` (41_encoder.md R77), `CK.FOLD`
(40_checksum.md R73), `crc_bit` (R72). -/
inductive OpResult
  | none
  | byte (b : Byte)
  | bytes (bs : List Byte)
  | error (cause : Cause)
deriving DecidableEq, Repr

/-- The state of the machine. -/
structure State where
  /-- The configuration (00_scope.md R6): a constant, no step writes it. -/
  cfg : Config
  /-- The RX state. -/
  rx : RxRegs
  /-- The TX state. -/
  tx : TxRegs
  /-- `RX_N` (10_state.md R28). -/
  rxN : Byte
  /-- The RX event output of the last step (10_state.md R14, R30). -/
  rxEvent : RxEvent
  /-- The TX event output of the last step. -/
  txEvent : TxEvent
  /-- The wire byte the last step emitted, at most one (10_state.md R14). -/
  emitted : Option Byte
  /-- The wire-out stream (20_memory.md R32, R44): every byte emitted, oldest first. -/
  wireOut : List Byte
  /-- The result of a pure operation, present for one step. -/
  result : OpResult
  /-- The inputs the environment gives next, oldest first (10_state.md R13, R14). -/
  pending : List Input
deriving DecidableEq, Repr

/-- Why the machine stops. The core itself has no traps (60_exceptions.md R125). -/
inductive Fault
  /-- Raised by `store`, by the `FrameOk` output and by `EmitData` and `EmitDataEsc2` when the buffer index is not below
  `MAX_PAYLOAD`: the element does not exist (20_memory.md R32). No run reaches such a state (20_memory.md R36). SAFE. -/
  | bufferIndexOutOfRange
deriving DecidableEq, Repr

/-- Why an input is given no meaning. -/
inductive Refusal
  /-- An instruction of the table that has no meaning yet; raised by `exec`. SAFE. -/
  | notModelled (mnemonic : String)
  /-- Raised by `step`: the configuration is not well formed (00_scope.md R11: "a model refuses a configuration that is
  not well formed"). SAFE. -/
  | configNotWellFormed
  /-- Raised by `step`: the encoded word is no row of the table. SAFE. -/
  | undecodable (e : DecodeError)
  /-- Raised by `RX.RESERVED3`: `RXIN` kind 3 is unused (30_encoding.md R64). SAFE. -/
  | rxinKindUnused
  /-- Raised by `TX.RESERVED3`: `TXIN` kind 3 is unused (30_encoding.md R64). SAFE. -/
  | txinKindUnused
deriving DecidableEq, Repr

/-- The outcome of a step of this machine. -/
abbrev Result := Host.Outcome State Fault Refusal

/-- The RX registers after `RESET` (10_state.md R31); the buffer's contents are unspecified: nothing is listed. -/
def RxRegs.reset (c : Config) (epoch : Nat) : RxRegs :=
  { state := .waitStart, len := 0, idx := 0, ck := c.ckInit, ckrx := 0, buf := [], epoch := epoch }

/-- The TX registers after `RESET` (10_state.md R31). -/
def TxRegs.reset (c : Config) (epoch : Nat) : TxRegs :=
  { state := .idle, len := 0, idx := 0, ck := c.ckInit, buf := [], epoch := epoch }

/-- The machine right after reset (10_state.md R31, 70_reset_and_hazards.md R148), in the spec's default profile P0
(00_scope.md R10; log entry 1), with no input given yet (log entry 4). -/
def State.reset : State :=
  { cfg := Config.P0
    rx := RxRegs.reset Config.P0 0
    tx := TxRegs.reset Config.P0 0
    rxN := 0
    rxEvent := .none
    txEvent := .none
    emitted := Option.none
    wireOut := []
    result := .none
    pending := [] }

end Sys2Proof.Machine
end

