-- ==== Sys2Proof/Machine/Ops.lean ====
section
/-! DEFINITION. The named operations over buffers, registers and outputs that the meanings share. What an
instruction-set manual calls taking an exception is here `RxRegs.resync` and `RxRegs.giveUp` (42_decoder.md R98,
60_exceptions.md R141); there is no return from it (R142). -/

namespace Sys2Proof.Machine

/-! ## Buffers (20_memory.md R33) -/

/-- The canonical form: indices strictly rising. -/
def Memory.wf : Memory → Bool
  | [] => true
  | [_] => true
  | x :: y :: m => decide (x.1 < y.1) && Memory.wf (y :: m)

/-- The byte last written at an index, if any. -/
def Memory.read? : Memory → Nat → Option Byte
  | [], _ => none
  | (i, v) :: m, a => if i = a then some v else Memory.read? m a

/-- `buf[a] <- v`. -/
def Memory.write : Memory → Nat → Byte → Memory
  | [], a, v => [(a, v)]
  | (i, u) :: m, a, v =>
    if a < i then (a, v) :: (i, u) :: m
    else if a = i then (a, v) :: m
    else (i, u) :: Memory.write m a v

/-- `buf[a] <- p[0]`, `buf[a+1] <- p[1]`, and so on. -/
def Memory.writeFrom : Memory → Nat → List Byte → Memory
  | m, _, [] => m
  | m, a, v :: p => Memory.writeFrom (m.write a v) (a + 1) p

/-- `rx_buf[i]`; an element not written since `RESET` is a free value (10_state.md R31). -/
def RxRegs.read (r : RxRegs) (i : Nat) : Byte := (r.buf.read? i).getD (Config.freeRxByte r.epoch i)

/-- `tx_buf[i]`; an element not written since `RESET` is a free value (10_state.md R31). -/
def TxRegs.read (t : TxRegs) (i : Nat) : Byte := (t.buf.read? i).getD (Config.freeTxByte t.epoch i)

/-- `rx_buf[0..n]`. -/
def RxRegs.readUpTo (r : RxRegs) (n : Nat) : List Byte := (List.range n).map r.read

/-- `tx_buf[0..n]`. -/
def TxRegs.readUpTo (t : TxRegs) (n : Nat) : List Byte := (List.range n).map t.read

/-! ## Procedures of RX (42_decoder.md) -/

/-- What a step of RX answers: the next registers and the event, or the fault. -/
abbrev RxResult := Except Fault (RxRegs × RxEvent)

/-- `clear` (42_decoder.md R98). -/
def RxRegs.clear (c : Config) (r : RxRegs) : RxRegs :=
  { r with state := .waitStart, len := 0, idx := 0, ck := c.ckInit, ckrx := 0 }

/-- The registers after `resync` (42_decoder.md R98): cleared, and at `ReadLength` when the byte is `START`. -/
def RxRegs.restart (c : Config) (r : RxRegs) (b : Byte) : RxRegs :=
  if b = c.start then { r.clear c with state := .readLength } else r.clear c

/-- `resync(b, cause)` (42_decoder.md R98). -/
def RxRegs.resync (c : Config) (r : RxRegs) (b : Byte) (cause : Cause) : RxRegs × RxEvent :=
  (r.restart c b, .drop cause)

/-- `clear(); raise Drop(cause)`: giving a frame up without looking at a byte again (42_decoder.md R106, R108, R109). -/
def RxRegs.giveUp (c : Config) (r : RxRegs) (cause : Cause) : RxRegs × RxEvent :=
  (r.clear c, .drop cause)

/-- The registers after `store(v)` (42_decoder.md R102), the index in range. -/
def RxRegs.stored (c : Config) (r : RxRegs) (v : Byte) : RxRegs :=
  { r with
    buf := r.buf.write r.idx.toNat v
    ck := c.ckStep r.ck v
    idx := r.idx + 1
    state := if r.idx + 1 = r.len then .readChecksum else .readPayload }

/-- `store(v)` (42_decoder.md R102); the element `rx_buf[rx_idx]` must exist (20_memory.md R32, R36). -/
def RxRegs.store (c : Config) (r : RxRegs) (v : Byte) : RxResult :=
  if r.idx.toNat < c.maxPayload then .ok (r.stored c v, .none) else .error .bufferIndexOutOfRange

/-- The third arm of 42_decoder.md R106, `Done` (R107): the payload is read, then the registers are cleared. -/
def RxRegs.done (c : Config) (r : RxRegs) : RxResult :=
  if r.len.toNat ≤ c.maxPayload then .ok (r.clear c, .frameOk (r.readUpTo r.len.toNat))
  else .error .bufferIndexOutOfRange

/-- `CK.INIT` or `CK.UPDATE` on the accumulator of RX. -/
def RxRegs.setCk (r : RxRegs) (v : Byte) : RxRegs := { r with ck := v }

/-! ## Procedures of TX (41_encoder.md) -/

/-- What a step of TX answers. -/
structure TxOut where
  regs : TxRegs
  emitted : Option Byte
  event : TxEvent
deriving DecidableEq, Repr

/-- A step of TX, or the fault. -/
abbrev TxResult := Except Fault TxOut

/-- `advance` (41_encoder.md R85). -/
def TxRegs.advance (t : TxRegs) : TxRegs :=
  { t with
    idx := t.idx + 1
    state := if t.idx + 1 = t.len then .emitCk else .emitData }

/-- The registers after an accepted `TX.SEND` (41_encoder.md R79). -/
def TxRegs.load (c : Config) (t : TxRegs) (p : List Byte) : TxRegs :=
  { t with
    buf := Memory.writeFrom t.buf 0 p
    len := BitVec.ofNat 8 p.length
    idx := 0
    ck := c.ckFold p
    state := .emitStart }

/-- `CK.INIT` or `CK.UPDATE` on the accumulator of TX. -/
def TxRegs.setCk (t : TxRegs) (v : Byte) : TxRegs := { t with ck := v }

/-- `tx_buf[tx_idx]`; the element must exist (20_memory.md R32, R36). -/
def TxRegs.current (c : Config) (t : TxRegs) : Except Fault Byte :=
  if t.idx.toNat < c.maxPayload then .ok (t.read t.idx.toNat) else .error .bufferIndexOutOfRange

/-! ## The state as a whole -/

/-- The outputs of a step that raises nothing, emits nothing and answers nothing (10_state.md R14, R30). -/
def State.quiet (s : State) : State :=
  { s with rxEvent := .none, txEvent := .none, emitted := none, result := .none }

/-- The next state of a step of RX. -/
def State.withRx (s : State) (r : RxRegs) (e : RxEvent) : State := { s.quiet with rx := r, rxEvent := e }

/-- The next state of a step of TX: what it emits goes to the end of the wire-out stream (20_memory.md R44). -/
def State.withTx (s : State) (o : TxOut) : State :=
  { s.quiet with
    tx := o.regs
    txEvent := o.event
    emitted := o.emitted
    wireOut := s.wireOut ++ o.emitted.toList }

/-- The next state of an operation that only answers a result. -/
def State.withResult (s : State) (v : OpResult) : State := { s.quiet with result := v }

/-- The next state of a pseudo-token: its expansion stands before the inputs to come (30_encoding.md R66). -/
def State.withExpansion (s : State) (is : List Input) : State := { s.quiet with pending := is ++ s.pending }

/-- The outcome of a step of RX. -/
def State.stepRx (s : State) : RxResult → Result
  | .ok (r, e) => .next (s.withRx r e)
  | .error f => .fault f

/-- The outcome of a step of TX. -/
def State.stepTx (s : State) : TxResult → Result
  | .ok o => .next (s.withTx o)
  | .error f => .fault f

/-- The value of an accumulator (40_checksum.md R67). -/
def State.readAcc (s : State) : Accumulator → Byte
  | .rx => s.rx.ck
  | .tx => s.tx.ck

/-- The next state of an operation that writes an accumulator (40_checksum.md R67). -/
def State.withAcc (s : State) (a : Accumulator) (v : Byte) : State :=
  match a with
  | .rx => { s.quiet with rx := s.rx.setCk v }
  | .tx => { s.quiet with tx := s.tx.setCk v }

/-- What the row of an input depends on. -/
def State.context (s : State) : Context :=
  { cfg := s.cfg, rxN := s.rxN, rxState := s.rx.state, txState := s.tx.state }

/-- The state once the first pending input has been taken. -/
def State.taken (s : State) (rest : List Input) : State := { s with pending := rest }

/-- Taking the next input: nothing to take, or the row it is and the state without it. -/
inductive Fetched
  | nothing
  | row (i : Instr) (s : State)
  | bad (e : DecodeError)

/-- The first pending input, decoded where the machine stands (10_state.md R14; 30_encoding.md R58). -/
def State.fetch (s : State) : Fetched :=
  match s.pending with
  | [] => .nothing
  | w :: rest =>
    match w.row s.context with
    | .ok i => .row i (s.taken rest)
    | .error e => .bad e

end Sys2Proof.Machine
end

