-- ==== Sys2Proof/Machine/Checksum.lean ====
section
/-! DEFINITION. The meanings of the checksum rows (40_checksum.md). `acc` is one of the two accumulators (R67); the
polynomial of the CRC8 rows is an operand, so that they run under every configuration (log entry 10). -/

namespace Sys2Proof.Machine

/-- `CK.INIT` (40_checksum.md R68): `acc <- CK_INIT`. -/
def execCkInit (a : Accumulator) (s : State) : Result := .next (s.withAcc a s.cfg.ckInit)

/-- `CK.UPDATE.XOR8` (40_checksum.md R69). -/
def execCkUpdateXor8 (a : Accumulator) (v : Byte) (s : State) : Result :=
  .next (s.withAcc a (ckStepXor8 (s.readAcc a) v))

/-- `CK.UPDATE.ADD8` (40_checksum.md R70). -/
def execCkUpdateAdd8 (a : Accumulator) (v : Byte) (s : State) : Result :=
  .next (s.withAcc a (ckStepAdd8 (s.readAcc a) v))

/-- `CK.UPDATE.CRC8` (40_checksum.md R71). -/
def execCkUpdateCrc8 (a : Accumulator) (poly v : Byte) (s : State) : Result :=
  .next (s.withAcc a (ckStepCrc8 poly (s.readAcc a) v))

/-- `crc_bit` (40_checksum.md R72), a function of a byte: it answers a result and writes no register. -/
def execCrcBit (poly a : Byte) (s : State) : Result := .next (s.withResult (.byte (crcBit poly a)))

/-- `CK.FOLD` (40_checksum.md R73), a function of a sequence: it answers a result and writes no register. -/
def execCkFold (p : List Byte) (s : State) : Result := .next (s.withResult (.byte (s.cfg.ckFold p)))

end Sys2Proof.Machine
end

