-- ==== Sys2Proof/Machine/Transmit.lean ====
section
/-! DEFINITION. The frame encoder TX (41_encoder.md): `encode_frame`, one function per rule, `tx_step`, and the meanings
of the TXIN rows of the table. -/

namespace Sys2Proof.Machine

/-- The wire bytes of the frame of payload `p` (41_encoder.md R77, 30_encoding.md R48). -/
def frameBytes (c : Config) (p : List Byte) : List Byte :=
  [c.start] ++ [BitVec.ofNat 8 p.length] ++ c.stuffAll p ++ c.stuff (c.ckFold p) ++ [c.stop]

/-- `encode_frame` (41_encoder.md R77). -/
def encodeFrame (c : Config) (p : List Byte) : Except Cause (List Byte) :=
  if c.maxPayload < p.length then .error .payloadTooLarge else .ok (frameBytes c p)

/-! ## One rule per input and state -/

/-- 41_encoder.md R79. -/
def txOnSend (c : Config) (t : TxRegs) (p : List Byte) : TxResult :=
  if t.state ≠ .idle then .ok ⟨t, none, .txError .txBusy⟩
  else if c.maxPayload < p.length then .ok ⟨t, none, .txError .payloadTooLarge⟩
  else .ok ⟨t.load c p, none, .none⟩

/-- 41_encoder.md R80. -/
def txIdle (t : TxRegs) : TxResult := .ok ⟨t, none, .none⟩

/-- 41_encoder.md R81. -/
def txEmitStart (c : Config) (t : TxRegs) : TxResult :=
  .ok ⟨{ t with state := .emitLen }, some c.start, .none⟩

/-- 41_encoder.md R82. -/
def txEmitLen (t : TxRegs) : TxResult :=
  .ok ⟨{ t with state := if t.len = 0 then .emitCk else .emitData }, some t.len, .none⟩

/-- 41_encoder.md R83, for `v = tx_buf[tx_idx]`. -/
def txEmitDataByte (c : Config) (t : TxRegs) (v : Byte) : TxOut :=
  if c.isReserved v then ⟨{ t with state := .emitDataEsc2 }, some c.esc, .none⟩
  else ⟨t.advance, some v, .none⟩

/-- 41_encoder.md R83. -/
def txEmitData (c : Config) (t : TxRegs) : TxResult :=
  match t.current c with
  | .ok v => .ok (txEmitDataByte c t v)
  | .error f => .error f

/-- 41_encoder.md R84. -/
def txEmitDataEsc2 (c : Config) (t : TxRegs) : TxResult :=
  match t.current c with
  | .ok v => .ok ⟨t.advance, some (v ^^^ c.escXor), .none⟩
  | .error f => .error f

/-- 41_encoder.md R86. -/
def txEmitCk (c : Config) (t : TxRegs) : TxResult :=
  if c.isReserved t.ck then .ok ⟨{ t with state := .emitCkEsc2 }, some c.esc, .none⟩
  else .ok ⟨{ t with state := .emitStop }, some t.ck, .none⟩

/-- 41_encoder.md R87. -/
def txEmitCkEsc2 (c : Config) (t : TxRegs) : TxResult :=
  .ok ⟨{ t with state := .emitStop }, some (t.ck ^^^ c.escXor), .none⟩

/-- 41_encoder.md R88. -/
def txEmitStop (c : Config) (t : TxRegs) : TxResult :=
  .ok ⟨{ t with state := .idle }, some c.stop, .txDone⟩

/-- 41_encoder.md R89. -/
def txOnWriteError (t : TxRegs) : TxResult :=
  if t.state = .idle then .ok ⟨t, none, .none⟩
  else .ok ⟨{ t with state := .idle }, none, .txError .transportError⟩

/-! ## The step -/

/-- `tx_step` for `Take` (41_encoder.md R78). -/
def txTake (c : Config) (t : TxRegs) : TxResult :=
  match t.state with
  | .idle => txIdle t
  | .emitStart => txEmitStart c t
  | .emitLen => txEmitLen t
  | .emitData => txEmitData c t
  | .emitDataEsc2 => txEmitDataEsc2 c t
  | .emitCk => txEmitCk c t
  | .emitCkEsc2 => txEmitCkEsc2 c t
  | .emitStop => txEmitStop c t

/-- `tx_step(cfg, s, in)` (41_encoder.md R78). -/
def txStep (c : Config) (t : TxRegs) : TxInput → TxResult
  | .send p => txOnSend c t p
  | .take => txTake c t
  | .writeError => txOnWriteError t

/-- `Take` given as the row of state `q`: the rule of that state where TX stands in it; elsewhere the kind, which is the
same for every state (30_encoding.md R64), is what TX's own state makes of it (log entry 6). -/
def State.takeAt (s : State) (q : TxState) (rule : TxResult) : Result :=
  if s.tx.state = q then s.stepTx rule else s.stepTx (txTake s.cfg s.tx)

/-! ## The meanings of the TXIN rows -/

/-- `TX.TAKE.Idle` (41_encoder.md R80). -/
def execTxTakeIdle (s : State) : Result := s.takeAt .idle (txIdle s.tx)

/-- `TX.TAKE.EmitStart` (41_encoder.md R81). -/
def execTxTakeEmitStart (s : State) : Result := s.takeAt .emitStart (txEmitStart s.cfg s.tx)

/-- `TX.TAKE.EmitLen` (41_encoder.md R82). -/
def execTxTakeEmitLen (s : State) : Result := s.takeAt .emitLen (txEmitLen s.tx)

/-- `TX.TAKE.EmitData` (41_encoder.md R83). -/
def execTxTakeEmitData (s : State) : Result := s.takeAt .emitData (txEmitData s.cfg s.tx)

/-- `TX.TAKE.EmitDataEsc2` (41_encoder.md R84). -/
def execTxTakeEmitDataEsc2 (s : State) : Result := s.takeAt .emitDataEsc2 (txEmitDataEsc2 s.cfg s.tx)

/-- `TX.TAKE.EmitCk` (41_encoder.md R86). -/
def execTxTakeEmitCk (s : State) : Result := s.takeAt .emitCk (txEmitCk s.cfg s.tx)

/-- `TX.TAKE.EmitCkEsc2` (41_encoder.md R87). -/
def execTxTakeEmitCkEsc2 (s : State) : Result := s.takeAt .emitCkEsc2 (txEmitCkEsc2 s.cfg s.tx)

/-- `TX.TAKE.EmitStop` (41_encoder.md R88). -/
def execTxTakeEmitStop (s : State) : Result := s.takeAt .emitStop (txEmitStop s.cfg s.tx)

/-- `TX.SEND` (41_encoder.md R79). -/
def execTxSend (p : List Byte) (s : State) : Result := s.stepTx (txOnSend s.cfg s.tx p)

/-- `TX.WERR` (41_encoder.md R89). -/
def execTxWerr (s : State) : Result := s.stepTx (txOnWriteError s.tx)

/-- `TX.RESERVED3`: kind 3 is unused, "not an input of the core" (30_encoding.md R64, 93_implementation_defined.md U14,
treatment `refuse`). -/
def execTxReserved3 (_s : State) : Result := .refused .txinKindUnused

end Sys2Proof.Machine
end

