-- ==== Sys2Proof/Machine/HostOps.lean ====
section
/-! DEFINITION. The meanings of the HOST rows: `CFG.SETN`, `RESET`, `encode_frame`. -/

namespace Sys2Proof.Machine

/-- `CFG.SETN` (42_decoder.md R110): `RX_N <- n`, no other state changes. -/
def execCfgSetn (n : Byte) (s : State) : Result := .next { s.quiet with rxN := n }

/-- `RESET` (70_reset_and_hazards.md R148): both agents and `RX_N` at their reset values, the buffers' contents
unspecified afterwards; the constants (R150) and the environment's two streams (20_memory.md R32) are not written. -/
def execReset (s : State) : Result :=
  .next { s.quiet with
    rx := RxRegs.reset s.cfg (s.rx.epoch + 1)
    tx := TxRegs.reset s.cfg (s.tx.epoch + 1)
    rxN := 0 }

/-- The result output of `encode_frame` (41_encoder.md R77): an error or the wire bytes. -/
def frameResult (c : Config) (p : List Byte) : OpResult :=
  match encodeFrame c p with
  | .ok bs => .bytes bs
  | .error cause => .error cause

/-- `encode_frame` (41_encoder.md R77), the pure function: no register is written. -/
def execEncodeFrame (p : List Byte) (s : State) : Result := .next (s.withResult (frameResult s.cfg p))

end Sys2Proof.Machine
end

