-- ==== Sys2Proof/Machine/Internal.lean ====
section
/-! DEFINITION. The meanings of the rows that are procedures of RX and TX: `clear`, `resync`, `store`, `Done`,
`advance`. -/

namespace Sys2Proof.Machine

/-- `clear` (42_decoder.md R98). -/
def execClear (s : State) : Result := .next (s.withRx (s.rx.clear s.cfg) .none)

/-- `resync` (42_decoder.md R98). -/
def execResync (b : Byte) (cause : Cause) (s : State) : Result := s.stepRx (.ok (s.rx.resync s.cfg b cause))

/-- `store` (42_decoder.md R102). -/
def execStore (v : Byte) (s : State) : Result := s.stepRx (s.rx.store s.cfg v)

/-- `Done` (42_decoder.md R107): the third arm of R106. -/
def execDone (s : State) : Result := s.stepRx (s.rx.done s.cfg)

/-- `advance` (41_encoder.md R85). -/
def execAdvance (s : State) : Result := .next (s.withTx ⟨s.tx.advance, none, .none⟩)

end Sys2Proof.Machine
end

