-- ==== Sys2Proof/Machine/Pseudo.lean ====
section
/-! DEFINITION. The meanings of the PSEUDO rows (30_encoding.md R66): a pseudo-token is replaced by its expansion, at
the head of the inputs to come. -/

namespace Sys2Proof.Machine

/-- `FRAME[p]` under the machine's configuration: one `Byte` input per byte of `encode_frame(p)`. Where that is the
error `PayloadTooLarge` there are no bytes, and the error is the result (log entry 13). -/
def execFrame (p : List Byte) (s : State) : Result :=
  match encodeFrame s.cfg p with
  | .ok bs => .next (s.withExpansion (bs.map fun b => .rx (.byte b)))
  | .error cause => .next (s.withResult (.error cause))

/-- `TAKE*n`: `n` tokens `TAKE`. -/
def execTakeN (n : Nat) (s : State) : Result := .next (s.withExpansion (List.replicate n (.tx .take)))

/-- How many `TAKE` tokens `SENDALL[p]` has: `|encode_frame(p)|`, none when it is the error (log entry 13). -/
def takesOf (c : Config) (p : List Byte) : Nat :=
  match encodeFrame c p with
  | .ok bs => bs.length
  | .error _ => 0

/-- `SENDALL[p]`: `SEND[p]`, then as many `TAKE` as the frame has bytes. The bytes it emits are those the following
steps append to the wire-out stream. -/
def execSendAll (p : List Byte) (s : State) : Result :=
  .next (s.withExpansion (.tx (.send p) :: List.replicate (takesOf s.cfg p) (.tx .take)))

end Sys2Proof.Machine
end

