-- ==== Sys2Proof/Machine/Receive.lean ====
section
/-! DEFINITION. The receive parser RX (42_decoder.md): one function per rule, `rx_step`, and the meanings of the RXIN
rows of the table. -/

namespace Sys2Proof.Machine

/-! ## One rule per state, for the input `Byte(b)` -/

/-- 42_decoder.md R99. -/
def rxWaitStart (c : Config) (r : RxRegs) (b : Byte) : RxResult :=
  if b = c.start then .ok ({ r.clear c with state := .readLength }, .none) else .ok (r, .none)

/-- The third arm of 42_decoder.md R100: the length byte is accepted. -/
def RxRegs.acceptLength (c : Config) (r : RxRegs) (b : Byte) : RxRegs :=
  { r with
    len := b
    idx := 0
    ck := c.ckInit
    state := if b = 0 then .readChecksum else .readPayload }

/-- 42_decoder.md R100. -/
def rxReadLength (c : Config) (rxN : Byte) (r : RxRegs) (b : Byte) : RxResult :=
  if c.exceedsMax b then .ok (r.resync c b .lengthExceedsMax)
  else if b ≠ rxN then .ok (r.resync c b .sizeMismatch)
  else .ok (r.acceptLength c b, .none)

/-- 42_decoder.md R101. -/
def rxReadPayload (c : Config) (r : RxRegs) (b : Byte) : RxResult :=
  if b = c.esc then .ok ({ r with state := .readEscapedByte }, .none)
  else if c.isReserved b then .ok (r.resync c b .unescapedMarker)
  else r.store c b

/-- 42_decoder.md R103. -/
def rxReadEscapedByte (c : Config) (r : RxRegs) (b : Byte) : RxResult :=
  if c.isReserved (c.dec b) then r.store c (c.dec b) else .ok (r.resync c b .badEscape)

/-- The checksum byte `v` is held until `STOP` (42_decoder.md R104, R105). -/
def RxRegs.holdChecksum (r : RxRegs) (v : Byte) : RxRegs := { r with ckrx := v, state := .expectStop }

/-- 42_decoder.md R104. -/
def rxReadChecksum (c : Config) (r : RxRegs) (b : Byte) : RxResult :=
  if b = c.esc then .ok ({ r with state := .readEscapedChecksum }, .none)
  else if c.isReserved b then .ok (r.resync c b .unescapedMarker)
  else .ok (r.holdChecksum b, .none)

/-- 42_decoder.md R105. -/
def rxReadEscapedChecksum (c : Config) (r : RxRegs) (b : Byte) : RxResult :=
  if c.isReserved (c.dec b) then .ok (r.holdChecksum (c.dec b), .none) else .ok (r.resync c b .badEscape)

/-- The second and third arms of 42_decoder.md R106: `STOP` has come, the checksums are compared. -/
def rxJudge (c : Config) (r : RxRegs) : RxResult :=
  if r.ckrx ≠ r.ck then .ok (r.giveUp c .checksumError) else r.done c

/-- 42_decoder.md R106. -/
def rxExpectStop (c : Config) (r : RxRegs) (b : Byte) : RxResult :=
  if b ≠ c.stop then .ok (r.resync c b .missingStop) else rxJudge c r

/-! ## Inputs that are not bytes -/

/-- 42_decoder.md R108. -/
def rxOnTimeout (c : Config) (r : RxRegs) : RxResult :=
  if r.state = .waitStart then .ok (r, .none) else .ok (r.giveUp c .timeout)

/-- 42_decoder.md R109. -/
def rxOnIoError (c : Config) (r : RxRegs) : RxResult := .ok (r.giveUp c .transportError)

/-! ## The step -/

/-- `rx_step` for `Byte(b)` (42_decoder.md R97). -/
def rxByte (c : Config) (rxN : Byte) (r : RxRegs) (b : Byte) : RxResult :=
  match r.state with
  | .waitStart => rxWaitStart c r b
  | .readLength => rxReadLength c rxN r b
  | .readPayload => rxReadPayload c r b
  | .readEscapedByte => rxReadEscapedByte c r b
  | .readChecksum => rxReadChecksum c r b
  | .readEscapedChecksum => rxReadEscapedChecksum c r b
  | .expectStop => rxExpectStop c r b

/-- `rx_step(cfg, RX_N, s, in)` (42_decoder.md R97). -/
def rxStep (c : Config) (rxN : Byte) (r : RxRegs) : RxInput → RxResult
  | .byte b => rxByte c rxN r b
  | .timeout => rxOnTimeout c r
  | .ioError => rxOnIoError c r

/-- The byte `b` reaches RX: the input `Byte(b)` in whatever state RX stands. -/
def State.consume (s : State) (b : Byte) : Result := s.stepRx (rxByte s.cfg s.rxN s.rx b)

/-- A byte given as the row of state `q`: the rule of that state where RX stands in it; elsewhere the word, which is the
same for every state (30_encoding.md R64), is what RX's own state makes of it (log entry 6). -/
def State.consumeAt (s : State) (q : RxState) (b : Byte) (rule : RxResult) : Result :=
  if s.rx.state = q then s.stepRx rule else s.consume b

/-! ## The meanings of the RXIN rows -/

/-- `RX.BYTE.WaitStart` (42_decoder.md R99). -/
def execRxByteWaitStart (b : Byte) (s : State) : Result :=
  s.consumeAt .waitStart b (rxWaitStart s.cfg s.rx b)

/-- `RX.BYTE.ReadLength` (42_decoder.md R100). -/
def execRxByteReadLength (b : Byte) (s : State) : Result :=
  s.consumeAt .readLength b (rxReadLength s.cfg s.rxN s.rx b)

/-- `RX.BYTE.ReadPayload` (42_decoder.md R101). -/
def execRxByteReadPayload (b : Byte) (s : State) : Result :=
  s.consumeAt .readPayload b (rxReadPayload s.cfg s.rx b)

/-- `RX.BYTE.ReadEscapedByte` (42_decoder.md R103). -/
def execRxByteReadEscapedByte (b : Byte) (s : State) : Result :=
  s.consumeAt .readEscapedByte b (rxReadEscapedByte s.cfg s.rx b)

/-- `RX.BYTE.ReadChecksum` (42_decoder.md R104). -/
def execRxByteReadChecksum (b : Byte) (s : State) : Result :=
  s.consumeAt .readChecksum b (rxReadChecksum s.cfg s.rx b)

/-- `RX.BYTE.ReadEscapedChecksum` (42_decoder.md R105). -/
def execRxByteReadEscapedChecksum (b : Byte) (s : State) : Result :=
  s.consumeAt .readEscapedChecksum b (rxReadEscapedChecksum s.cfg s.rx b)

/-- `RX.BYTE.ExpectStop` (42_decoder.md R106). -/
def execRxByteExpectStop (b : Byte) (s : State) : Result :=
  s.consumeAt .expectStop b (rxExpectStop s.cfg s.rx b)

/-- `RX.TIMEOUT` (42_decoder.md R108). -/
def execRxTimeout (s : State) : Result := s.stepRx (rxOnTimeout s.cfg s.rx)

/-- `RX.IOERR` (42_decoder.md R109). -/
def execRxIoerr (s : State) : Result := s.stepRx (rxOnIoError s.cfg s.rx)

/-- `RX.RESERVED3`: kind 3 is unused, "not an input of the core" (30_encoding.md R64, 93_implementation_defined.md U14,
treatment `refuse`). -/
def execRxReserved3 (_low : Byte) (_s : State) : Result := .refused .rxinKindUnused

end Sys2Proof.Machine
end

