-- ==== Sys2Proof/Machine/Wire.lean ====
section
/-! DEFINITION. The meanings of the WIRE rows of the table: what a wire byte does at its position (30_encoding.md R58,
R60; the effects are those of 42_decoder.md R99 to R106). -/

namespace Sys2Proof.Machine

/-- A row of state `q` for the byte `b`: its own effect where RX stands in `q` and the row's condition holds; elsewhere
the byte is what RX's own state makes of it (log entry 6), since on the wire a row is its byte and nothing else. -/
def State.symbol (s : State) (q : RxState) (b : Byte) (cond : Bool) (effect : RxResult) : Result :=
  if s.rx.state = q ∧ cond = true then s.stepRx effect else s.consume b

/-! ## Between frames: `WaitStart` -/

/-- `SOF`: start of frame (30_encoding.md R49, R58). -/
def execSof (s : State) : Result :=
  s.symbol .waitStart s.cfg.start true (.ok ({ s.rx.clear s.cfg with state := .readLength }, .none))

/-- `FILL`: ignored, no event and no state change (30_encoding.md R62). -/
def execFill (b : Byte) (s : State) : Result :=
  s.symbol .waitStart b (b != s.cfg.start) (.ok (s.rx, .none))

/-! ## The `LEN` position: `ReadLength` -/

/-- `ILL.LEN_MAX` (30_encoding.md R60). -/
def execIllLenMax (b : Byte) (s : State) : Result :=
  s.symbol .readLength b (s.cfg.exceedsMax b) (.ok (s.rx.resync s.cfg b .lengthExceedsMax))

/-- `ILL.LEN_SIZE` (30_encoding.md R60). -/
def execIllLenSize (b : Byte) (s : State) : Result :=
  s.symbol .readLength b (!s.cfg.exceedsMax b && b != s.rxN) (.ok (s.rx.resync s.cfg b .sizeMismatch))

/-- `LEN`: the payload size, raw (30_encoding.md R50). -/
def execLen (b : Byte) (s : State) : Result :=
  s.symbol .readLength b (!s.cfg.exceedsMax b && b == s.rxN) (.ok (s.rx.acceptLength s.cfg b, .none))

/-! ## The payload field: `ReadPayload` and `ReadEscapedByte` -/

/-- `ESC` in the payload field: the first byte of an escape sequence (30_encoding.md R54). -/
def execEsc (s : State) : Result :=
  s.symbol .readPayload s.cfg.esc true (.ok ({ s.rx with state := .readEscapedByte }, .none))

/-- `ILL.MARK.DATA`: a raw marker in the payload field (30_encoding.md R60). -/
def execIllMarkData (b : Byte) (s : State) : Result :=
  s.symbol .readPayload b (s.cfg.isMarker b && b != s.cfg.esc) (.ok (s.rx.resync s.cfg b .unescapedMarker))

/-- `DATA`: the payload byte `b` (30_encoding.md R51, R56). -/
def execData (b : Byte) (s : State) : Result :=
  s.symbol .readPayload b (!s.cfg.isReserved b) (s.rx.store s.cfg b)

/-- `ESCD.START`: the payload byte `START` (30_encoding.md R54, R56). -/
def execEscdStart (s : State) : Result :=
  s.symbol .readEscapedByte (s.cfg.enc s.cfg.start) true (s.rx.store s.cfg s.cfg.start)

/-- `ESCD.STOP`: the payload byte `STOP`. -/
def execEscdStop (s : State) : Result :=
  s.symbol .readEscapedByte (s.cfg.enc s.cfg.stop) true (s.rx.store s.cfg s.cfg.stop)

/-- `ESCD.ESC`: the payload byte `ESC`. -/
def execEscdEsc (s : State) : Result :=
  s.symbol .readEscapedByte (s.cfg.enc s.cfg.esc) true (s.rx.store s.cfg s.cfg.esc)

/-- `ILL.ESC.DATA`: a bad escape in the payload field (30_encoding.md R60, R61). -/
def execIllEscData (b : Byte) (s : State) : Result :=
  s.symbol .readEscapedByte b (!s.cfg.isReserved (s.cfg.dec b)) (.ok (s.rx.resync s.cfg b .badEscape))

/-! ## The checksum field: `ReadChecksum` and `ReadEscapedChecksum` -/

/-- `ESC.CK`: the symbol `ESC` in the checksum field (30_encoding.md R58). -/
def execEscCk (s : State) : Result :=
  s.symbol .readChecksum s.cfg.esc true (.ok ({ s.rx with state := .readEscapedChecksum }, .none))

/-- `ILL.MARK.CK`: a raw marker in the checksum field (30_encoding.md R60). -/
def execIllMarkCk (b : Byte) (s : State) : Result :=
  s.symbol .readChecksum b (s.cfg.isMarker b && b != s.cfg.esc) (.ok (s.rx.resync s.cfg b .unescapedMarker))

/-- `CKS`: the received checksum `b` (30_encoding.md R52). -/
def execCks (b : Byte) (s : State) : Result :=
  s.symbol .readChecksum b (!s.cfg.isReserved b) (.ok (s.rx.holdChecksum b, .none))

/-- `ESCK.START`: the received checksum is `START`. -/
def execEsckStart (s : State) : Result :=
  s.symbol .readEscapedChecksum (s.cfg.enc s.cfg.start) true (.ok (s.rx.holdChecksum s.cfg.start, .none))

/-- `ESCK.STOP`: the received checksum is `STOP`. -/
def execEsckStop (s : State) : Result :=
  s.symbol .readEscapedChecksum (s.cfg.enc s.cfg.stop) true (.ok (s.rx.holdChecksum s.cfg.stop, .none))

/-- `ESCK.ESC`: the received checksum is `ESC`. -/
def execEsckEsc (s : State) : Result :=
  s.symbol .readEscapedChecksum (s.cfg.enc s.cfg.esc) true (.ok (s.rx.holdChecksum s.cfg.esc, .none))

/-- `ILL.ESC.CK`: a bad escape in the checksum field (30_encoding.md R60, R61). -/
def execIllEscCk (b : Byte) (s : State) : Result :=
  s.symbol .readEscapedChecksum b (!s.cfg.isReserved (s.cfg.dec b)) (.ok (s.rx.resync s.cfg b .badEscape))

/-! ## The end: `ExpectStop` -/

/-- `EOF`: end of frame; the checksums are then compared (30_encoding.md R53, 42_decoder.md R106). -/
def execEof (s : State) : Result :=
  s.symbol .expectStop s.cfg.stop true (rxJudge s.cfg s.rx)

/-- `ILL.STOP`: a missing stop marker (30_encoding.md R60). -/
def execIllStop (b : Byte) (s : State) : Result :=
  s.symbol .expectStop b (b != s.cfg.stop) (.ok (s.rx.resync s.cfg b .missingStop))

end Sys2Proof.Machine
end

