-- ==== Sys2Proof/Machine/Dispatch.lean ====
section
/-! DEFINITION. One arm per row of spec/opcode_table.json: the meaning it has. -/

namespace Sys2Proof.Machine

/-- The meaning of an instruction. -/
def exec (i : Instr) (s : State) : Host.Outcome State Fault Refusal :=
  match i with
  | .sof => Sys2Proof.Machine.execSof s
  | .fill b => Sys2Proof.Machine.execFill b s
  | .illLenMax b => Sys2Proof.Machine.execIllLenMax b s
  | .illLenSize b => Sys2Proof.Machine.execIllLenSize b s
  | .len b => Sys2Proof.Machine.execLen b s
  | .esc => Sys2Proof.Machine.execEsc s
  | .illMarkData b => Sys2Proof.Machine.execIllMarkData b s
  | .data b => Sys2Proof.Machine.execData b s
  | .escdStart => Sys2Proof.Machine.execEscdStart s
  | .escdStop => Sys2Proof.Machine.execEscdStop s
  | .escdEsc => Sys2Proof.Machine.execEscdEsc s
  | .illEscData b => Sys2Proof.Machine.execIllEscData b s
  | .escCk => Sys2Proof.Machine.execEscCk s
  | .illMarkCk b => Sys2Proof.Machine.execIllMarkCk b s
  | .cks b => Sys2Proof.Machine.execCks b s
  | .esckStart => Sys2Proof.Machine.execEsckStart s
  | .esckStop => Sys2Proof.Machine.execEsckStop s
  | .esckEsc => Sys2Proof.Machine.execEsckEsc s
  | .illEscCk b => Sys2Proof.Machine.execIllEscCk b s
  | .eof => Sys2Proof.Machine.execEof s
  | .illStop b => Sys2Proof.Machine.execIllStop b s
  | .rxByteWaitStart b => Sys2Proof.Machine.execRxByteWaitStart b s
  | .rxByteReadLength b => Sys2Proof.Machine.execRxByteReadLength b s
  | .rxByteReadPayload b => Sys2Proof.Machine.execRxByteReadPayload b s
  | .rxByteReadEscapedByte b => Sys2Proof.Machine.execRxByteReadEscapedByte b s
  | .rxByteReadChecksum b => Sys2Proof.Machine.execRxByteReadChecksum b s
  | .rxByteReadEscapedChecksum b => Sys2Proof.Machine.execRxByteReadEscapedChecksum b s
  | .rxByteExpectStop b => Sys2Proof.Machine.execRxByteExpectStop b s
  | .rxTimeout => Sys2Proof.Machine.execRxTimeout s
  | .rxIoerr => Sys2Proof.Machine.execRxIoerr s
  | .rxReserved3 low => Sys2Proof.Machine.execRxReserved3 low s
  | .txTakeIdle => Sys2Proof.Machine.execTxTakeIdle s
  | .txTakeEmitStart => Sys2Proof.Machine.execTxTakeEmitStart s
  | .txTakeEmitLen => Sys2Proof.Machine.execTxTakeEmitLen s
  | .txTakeEmitData => Sys2Proof.Machine.execTxTakeEmitData s
  | .txTakeEmitDataEsc2 => Sys2Proof.Machine.execTxTakeEmitDataEsc2 s
  | .txTakeEmitCk => Sys2Proof.Machine.execTxTakeEmitCk s
  | .txTakeEmitCkEsc2 => Sys2Proof.Machine.execTxTakeEmitCkEsc2 s
  | .txTakeEmitStop => Sys2Proof.Machine.execTxTakeEmitStop s
  | .txSend p => Sys2Proof.Machine.execTxSend p s
  | .txWerr => Sys2Proof.Machine.execTxWerr s
  | .txReserved3 => Sys2Proof.Machine.execTxReserved3 s
  | .cfgSetn n => Sys2Proof.Machine.execCfgSetn n s
  | .reset => Sys2Proof.Machine.execReset s
  | .encodeFrame p => Sys2Proof.Machine.execEncodeFrame p s
  | .ckInit a => Sys2Proof.Machine.execCkInit a s
  | .ckUpdateXor8 a v => Sys2Proof.Machine.execCkUpdateXor8 a v s
  | .ckUpdateAdd8 a v => Sys2Proof.Machine.execCkUpdateAdd8 a v s
  | .ckUpdateCrc8 a poly v => Sys2Proof.Machine.execCkUpdateCrc8 a poly v s
  | .crcBit poly a => Sys2Proof.Machine.execCrcBit poly a s
  | .ckFold p => Sys2Proof.Machine.execCkFold p s
  | .clear => Sys2Proof.Machine.execClear s
  | .resync b cause => Sys2Proof.Machine.execResync b cause s
  | .store v => Sys2Proof.Machine.execStore v s
  | .done => Sys2Proof.Machine.execDone s
  | .advance => Sys2Proof.Machine.execAdvance s
  | .frame p => Sys2Proof.Machine.execFrame p s
  | .takeN n => Sys2Proof.Machine.execTakeN n s
  | .sendAll p => Sys2Proof.Machine.execSendAll p s

end Sys2Proof.Machine
end

