-- ==== Sys2Proof/Machine/Step.lean ====
section
/-! DEFINITION. The step of the machine, and how one table word is placed before it. -/

namespace Sys2Proof.Machine

/-- One step. A configuration that is not well formed is refused (00_scope.md R11). With no input to take the core is at
rest in its state (60_exceptions.md R147): nothing is raised and nothing emitted. Otherwise the first pending input is
taken and the row it is at this state is run. -/
def step (s : State) : Host.Outcome State Fault Refusal :=
  if s.cfg.wf then
    match s.fetch with
    | .nothing => .next s.quiet
    | .row i t => exec i t
    | .bad e => .refused (.undecodable e)
  else .refused .configNotWellFormed

/-- `s` with a table word as its next input, and RX at the position where a wire byte's row is met (log entry 5). -/
def State.withFetchWord (s : State) (nbits w : Nat) : State :=
  { s with
    pending := .code (tableCode nbits w) :: s.pending
    rx := { s.rx with
      state := match tableCode nbits w with
        | .wire b => tablePosition (.wire b)
        | .rxin _ => s.rx.state
        | .txin _ _ => s.rx.state
        | .other _ _ => s.rx.state } }

end Sys2Proof.Machine
end

