-- ==== Sys2Proof/Machine/Runs.lean ====
section
/-! DEFINITION. The two agents over sequences of inputs: `rx_run` and `decode_frame` (42_decoder.md R122), the same for
TX, and the host's receive loop `try_receive` (42_decoder.md R119). -/

namespace Sys2Proof.Machine

/-- `rx_run(cfg, RX_N, s, ins)` (42_decoder.md R122): the final registers and one event per input. -/
def rxRun (c : Config) (rxN : Byte) : RxRegs → List RxInput → Except Fault (RxRegs × List RxEvent)
  | r, [] => .ok (r, [])
  | r, i :: is =>
    match rxStep c rxN r i with
    | .error f => .error f
    | .ok (r', e) =>
      match rxRun c rxN r' is with
      | .error f => .error f
      | .ok (r'', es) => .ok (r'', e :: es)

/-- The inputs `Byte` of a byte sequence. -/
def byteInputs (bs : List Byte) : List RxInput := bs.map RxInput.byte

/-- The payload of the first `FrameOk` among the events. -/
def firstFrame : List RxEvent → Option (List Byte)
  | [] => none
  | .frameOk p :: _ => some p
  | .none :: es => firstFrame es
  | .drop _ :: es => firstFrame es

/-- `decode_frame(bytes)` (42_decoder.md R122): the payload of the first `FrameOk` of the run from the reset state, or
"no data". -/
def decodeFrame (c : Config) (rxN : Byte) (bs : List Byte) : Except Fault (Option (List Byte)) :=
  match rxRun c rxN (RxRegs.reset c 0) (byteInputs bs) with
  | .error f => .error f
  | .ok (_, es) => .ok (firstFrame es)

/-- `tx_step` over a sequence of inputs: the final registers and, per input, the byte emitted and the event. -/
def txRun (c : Config) : TxRegs → List TxInput → Except Fault (TxRegs × List (Option Byte × TxEvent))
  | t, [] => .ok (t, [])
  | t, i :: is =>
    match txStep c t i with
    | .error f => .error f
    | .ok o =>
      match txRun c o.regs is with
      | .error f => .error f
      | .ok (t', os) => .ok (t', (o.emitted, o.event) :: os)

/-- What a call of `try_receive` returns (42_decoder.md R119). -/
inductive ReceiveResult
  | payload (p : List Byte)
  | noData
  | transportError
deriving DecidableEq, Repr

/-- `try_receive(expected_size N)` (42_decoder.md R119) over the inputs the Byte Stream gives before the host's own
deadline passes (log entry 19): the result, the registers left standing (R120) and the inputs not used. -/
def tryReceive (c : Config) (n : Byte) :
    RxRegs → List RxInput → Except Fault (ReceiveResult × RxRegs × List RxInput)
  | r, [] => .ok (.noData, r, [])
  | r, i :: is =>
    match rxStep c n r i with
    | .error f => .error f
    | .ok (r', .frameOk p) => .ok (.payload p, r', is)
    | .ok (r', _) =>
      match i with
      | .timeout => .ok (.noData, r', is)
      | .ioError => .ok (.transportError, r', is)
      | .byte _ => tryReceive c n r' is

end Sys2Proof.Machine
end

