-- ==== Sys2Proof/Machine/View.lean ====
section
/-! DEFINITION. What the host reads: the status view (10_state.md R29), the codes of events (60_exceptions.md R127), and
its projections of the events (60_exceptions.md R128, R145). -/

namespace Sys2Proof.Machine

/-- The status view (10_state.md R29), each field at its width. -/
structure StatusView where
  rxState : BitVec 3
  rxLen : BitVec 8
  rxIdx : BitVec 8
  rxCk : BitVec 8
  rxCkrx : BitVec 8
  txState : BitVec 3
  txLen : BitVec 8
  txIdx : BitVec 8
  txCk : BitVec 8
  rxN : BitVec 8
deriving DecidableEq, Repr

/-- Reading the status (10_state.md R29): a function of the state, which it does not change. -/
def State.status (s : State) : StatusView :=
  { rxState := s.rx.state.code
    rxLen := s.rx.len
    rxIdx := s.rx.idx
    rxCk := s.rx.ck
    rxCkrx := s.rx.ckrx
    txState := s.tx.state.code
    txLen := s.tx.len
    txIdx := s.tx.idx
    txCk := s.tx.ck
    rxN := s.rxN }

/-- The kind of an RX event (60_exceptions.md R127). -/
def RxEvent.kind : RxEvent → Nat
  | .none => 0
  | .frameOk _ => 1
  | .drop _ => 2

/-- The kind of a TX event (60_exceptions.md R127). -/
def TxEvent.kind : TxEvent → Nat
  | .none => 0
  | .txDone => 1
  | .txError _ => 2

/-- What the host makes of an RX event (60_exceptions.md R128). -/
inductive HostView
  /-- Nothing yet; keep feeding. -/
  | keepFeeding
  /-- `Ok(Some(payload))`. -/
  | data (payload : List Byte)
  /-- `Ok(None)`, "no data"; the call ends. -/
  | noDataEnds
  /-- No data; the call goes on until its deadline. -/
  | noDataGoesOn
  /-- `Err(TransportError)`, or in the diagnostic view a distinct error variant. -/
  | error (cause : Cause)
deriving DecidableEq, Repr

/-- The default view (60_exceptions.md R128). RX never raises a `Drop` with code 9 or 10 (R127); log entry 21. -/
def RxEvent.defaultView : RxEvent → HostView
  | .frameOk p => .data p
  | .none => .keepFeeding
  | .drop .transportError => .error .transportError
  | .drop .timeout => .noDataEnds
  | .drop _ => .noDataGoesOn

/-- The diagnostic view (60_exceptions.md R128): causes 1 to 6 are surfaced. For codes 9 and 10 see `defaultView`. -/
def RxEvent.diagnosticView : RxEvent → HostView
  | .frameOk p => .data p
  | .none => .keepFeeding
  | .drop .timeout => .noDataEnds
  | .drop cause => .error cause

/-- What `send` returns for a TX event that ends it (60_exceptions.md R145): `none` for an event that does not. DESIGN
CHOICE (log entry 21): R145 maps `TxDone`, `TxError(TransportError)` and `TxError(PayloadTooLarge)`; for `TxError(TxBusy)`,
which a host that keeps R145 never sees (70_reset_and_hazards.md R159), `send` ends with the error `TxBusy`. -/
def TxEvent.sendResult : TxEvent → Option (Except Cause Unit)
  | .none => Option.none
  | .txDone => some (.ok ())
  | .txError cause => some (.error cause)

end Sys2Proof.Machine
end

