-- ==== Sys2Proof/Safety.lean ====
section
/-! DEFINITION. What counts as a safe state and a safe run, in the terms the claims use: the invariants of the two agents
(10_state.md R23, R27), the buffers' canonical form and bounds (20_memory.md R36), the outputs' codes
(60_exceptions.md R127), and inputs that are the core's (10_state.md R14). -/

namespace Sys2Proof

/-- An input the environment may give (10_state.md R14; for the encoded words 30_encoding.md R64; for the pseudo-tokens
R66): every input but a procedure of RX or TX called on its own. -/
def Input.isInterface : Input → Bool
  | .rx _ => true
  | .tx _ => true
  | .call i => i.format != .internal
  | .code _ => true

/-- A sequence of bytes without `START`: fill (30_encoding.md R62). -/
def Config.isFill (c : Config) (bs : List Byte) : Prop := ∀ b ∈ bs, b ≠ c.start

end Sys2Proof

namespace Sys2Proof.Machine

/-- A buffer in canonical form whose cells all exist under `cfg` (20_memory.md R32). -/
def Memory.fits (c : Config) (m : Memory) : Prop := m.wf = true ∧ ∀ x ∈ m, x.1 < c.maxPayload

/-- The elements below `n` have all been written since `RESET`. -/
def Memory.writtenUpTo (m : Memory) (n : Nat) : Prop := ∀ i, i < n → (m.read? i).isSome = true

/-- The cleared values (10_state.md R23, first row). -/
def RxRegs.isCleared (c : Config) (r : RxRegs) : Prop := r.len = 0 ∧ r.idx = 0 ∧ r.ck = c.ckInit ∧ r.ckrx = 0

/-- A payload in flight, not complete (10_state.md R23, second row). -/
def RxRegs.isFilling (c : Config) (r : RxRegs) : Prop :=
  1 ≤ r.len.toNat ∧ r.len.toNat ≤ c.maxPayload ∧ r.idx.toNat < r.len.toNat
  ∧ r.buf.writtenUpTo r.idx.toNat ∧ r.ck = c.ckFold (r.readUpTo r.idx.toNat) ∧ r.ckrx = 0

/-- A complete payload in flight (10_state.md R23, third and fourth rows, but for `rx_ckrx`). -/
def RxRegs.isFull (c : Config) (r : RxRegs) : Prop :=
  r.len.toNat ≤ c.maxPayload ∧ r.idx = r.len
  ∧ r.buf.writtenUpTo r.len.toNat ∧ r.ck = c.ckFold (r.readUpTo r.len.toNat)

/-- The RX invariant (10_state.md R23), with what R20 adds: the bytes counted so far have been written. -/
def RxInv (c : Config) (r : RxRegs) : Prop :=
  r.buf.fits c ∧
  match r.state with
  | .waitStart => r.isCleared c
  | .readLength => r.isCleared c
  | .readPayload => r.isFilling c
  | .readEscapedByte => r.isFilling c
  | .readChecksum => r.isFull c ∧ r.ckrx = 0
  | .readEscapedChecksum => r.isFull c ∧ r.ckrx = 0
  | .expectStop => r.isFull c

/-- A frame in hand (10_state.md R27): what holds in every state but `Idle`. -/
def TxRegs.isLoaded (c : Config) (t : TxRegs) : Prop :=
  t.len.toNat ≤ c.maxPayload ∧ t.buf.writtenUpTo t.len.toNat ∧ t.ck = c.ckFold (t.readUpTo t.len.toNat)

/-- The TX invariant (10_state.md R27), with `tx_idx = 0` until the payload field, which 41_encoder.md R79 gives. -/
def TxInv (c : Config) (t : TxRegs) : Prop :=
  t.buf.fits c ∧
  match t.state with
  | .idle => True
  | .emitStart => t.isLoaded c ∧ t.idx = 0
  | .emitLen => t.isLoaded c ∧ t.idx = 0
  | .emitData => t.isLoaded c ∧ t.idx.toNat < t.len.toNat
  | .emitDataEsc2 => t.isLoaded c ∧ t.idx.toNat < t.len.toNat ∧ c.isReserved (t.read t.idx.toNat) = true
  | .emitCk => t.isLoaded c ∧ t.idx = t.len
  | .emitCkEsc2 => t.isLoaded c ∧ t.idx = t.len ∧ c.isReserved t.ck = true
  | .emitStop => t.isLoaded c ∧ t.idx = t.len

/-- The causes a `Drop` carries: codes 1 to 8 (60_exceptions.md R127). -/
def RxEvent.causeFits : RxEvent → Prop
  | .none => True
  | .frameOk _ => True
  | .drop cause => 1 ≤ cause.code ∧ cause.code ≤ 8

/-- The causes a `TxError` carries: codes 8, 9, 10 (60_exceptions.md R127). -/
def TxEvent.causeFits : TxEvent → Prop
  | .none => True
  | .txDone => True
  | .txError cause => 8 ≤ cause.code ∧ cause.code ≤ 10

/-- The machine's invariant. -/
structure Inv (s : State) : Prop where
  /-- The configuration is well formed (00_scope.md R11). -/
  cfg : s.cfg.wf = true
  rx : RxInv s.cfg s.rx
  tx : TxInv s.cfg s.tx
  rxEvent : s.rxEvent.causeFits
  txEvent : s.txEvent.causeFits
  pending : ∀ w ∈ s.pending, w.isInterface = true

/-- `n` steps of the machine, stopping at the first fault or refusal. -/
def steps : Nat → State → Result
  | 0, s => .next s
  | n + 1, s =>
    match step s with
    | .next t => steps n t
    | .fault f => .fault f
    | .refused r => .refused r

end Sys2Proof.Machine
end

