-- ==== Sys2Proof/Certificates/Slice0/Obligations.lean ====
section
/-! DEFINITION. The statements about the machine. Every docstring names the rule of spec/ the statement is taken from.
First the vocabulary they share, written out in the spec's own terms and not in the model's helper functions. -/

open Sys2Proof Sys2Proof.Machine

namespace Sys2Proof.Claims

/-- What a step of RX leaves alone: the configuration, all of TX, `RX_N`, the wire-out stream and the inputs to come;
it raises no TX event, emits nothing and answers no result (42_decoder.md R97). -/
def RxFrame (s t : State) : Prop :=
  t.cfg = s.cfg ∧ t.tx = s.tx ∧ t.rxN = s.rxN ∧ t.txEvent = .none ∧ t.emitted = none
  ∧ t.wireOut = s.wireOut ∧ t.result = .none ∧ t.pending = s.pending

/-- What a step of TX leaves alone: the configuration, all of RX, `RX_N` and the inputs to come; it raises no RX event
and answers no result (41_encoder.md R78); the wire-out stream grows by what it emits. -/
def TxFrame (s t : State) : Prop :=
  t.cfg = s.cfg ∧ t.rx = s.rx ∧ t.rxN = s.rxN ∧ t.rxEvent = .none ∧ t.result = .none
  ∧ t.pending = s.pending ∧ t.wireOut = s.wireOut ++ t.emitted.toList

/-- What an operation that only answers a result leaves alone: every register, both buffers, both streams. -/
def PureFrame (s t : State) : Prop :=
  t.cfg = s.cfg ∧ t.rx = s.rx ∧ t.tx = s.tx ∧ t.rxN = s.rxN ∧ t.rxEvent = .none ∧ t.txEvent = .none
  ∧ t.emitted = none ∧ t.wireOut = s.wireOut ∧ t.pending = s.pending

/-- The registers with the cleared values, at `WaitStart` (42_decoder.md R98, `clear`); the buffer as it was. -/
def clearedRegs (c : Config) (r : RxRegs) : RxRegs :=
  { r with state := .waitStart, len := 0, idx := 0, ck := c.ckInit, ckrx := 0 }

/-- The registers `resync(b, …)` leaves (42_decoder.md R98). -/
def restartedRegs (c : Config) (r : RxRegs) (b : Byte) : RxRegs :=
  { r with
    state := if b = c.start then .readLength else .waitStart
    len := 0, idx := 0, ck := c.ckInit, ckrx := 0 }

/-- `r'` is `r` after `store(v)` (42_decoder.md R102), the buffer read one element at a time. -/
def StoredAs (c : Config) (r r' : RxRegs) (v : Byte) : Prop :=
  r'.ck = c.ckStep r.ck v ∧ r'.idx = r.idx + 1
  ∧ r'.state = (if r.idx + 1 = r.len then .readChecksum else .readPayload)
  ∧ r'.len = r.len ∧ r'.ckrx = r.ckrx ∧ r'.epoch = r.epoch
  ∧ ∀ i, r'.read i = if i = r.idx.toNat then v else r.read i

/-- `t` is `s` after a step of RX that drops the frame with `cause`, judging the byte `b` again (42_decoder.md R98). -/
def DroppedAt (s t : State) (b : Byte) (cause : Cause) : Prop :=
  t.rx = restartedRegs s.cfg s.rx b ∧ t.rxEvent = .drop cause

/-- `v in RESERVED` (00_scope.md R7). -/
def Reserved (c : Config) (v : Byte) : Prop := v = c.start ∨ v = c.stop ∨ v = c.esc

/-- The stuffing of one byte (30_encoding.md R55). -/
def stuffed (c : Config) (v : Byte) : List Byte :=
  if v = c.start ∨ v = c.stop ∨ v = c.esc then [c.esc, v ^^^ c.escXor] else [v]

/-- `CK_FOLD(p)` as a left fold (40_checksum.md R73). -/
def foldOf (c : Config) (p : List Byte) : Byte := p.foldl c.ckStep c.ckInit

/-- The wire bytes of the frame of `p` (41_encoder.md R77, 30_encoding.md R48). -/
def frameOf (c : Config) (p : List Byte) : List Byte :=
  c.start :: BitVec.ofNat 8 p.length :: (p.flatMap (stuffed c) ++ stuffed c (foldOf c p) ++ [c.stop])

/-- The events of a whole frame: none until its last byte, then `FrameOk(p)` (42_decoder.md R112). -/
def frameEvents (c : Config) (p : List Byte) : List RxEvent :=
  List.replicate ((frameOf c p).length - 1) .none ++ [.frameOk p]

/-- The row has no way to store in `rx_buf` from state `s` (20_memory.md R34): it is not `store`, and it is no byte given
to RX while RX stands where `store` runs. -/
def StoresNothing (s : State) (i : Instr) : Prop :=
  (∀ v, i ≠ .store v)
  ∧ ((i.format ≠ .wire ∧ i.format ≠ .rxin) ∨ i = .rxTimeout ∨ i = .rxIoerr
    ∨ (s.rx.state ≠ .readPayload ∧ s.rx.state ≠ .readEscapedByte))

/-- The next state a step of RX gives, written out: `r` and `e` are RX's, nothing else is written (42_decoder.md R97). -/
def afterRx (s : State) (r : RxRegs) (e : RxEvent) : State :=
  { s with rx := r, rxEvent := e, txEvent := .none, emitted := none, result := .none }

/-- The next state a step of TX gives, written out: what is emitted goes to the end of the wire-out stream
(41_encoder.md R78, 20_memory.md R44). -/
def afterTx (s : State) (o : TxOut) : State :=
  { s with
    tx := o.regs, txEvent := o.event, emitted := o.emitted, wireOut := s.wireOut ++ o.emitted.toList
    rxEvent := .none, result := .none }

/-- An event is a `FrameOk`. -/
def isFrameOk : RxEvent → Bool
  | .frameOk _ => true
  | .none => false
  | .drop _ => false

end Sys2Proof.Claims

open Sys2Proof.Claims

/-! ## Reset (70_reset_and_hazards.md) -/

/-- R148: `RESET` in any state, with the values of 10_state.md R31; nothing is said of the buffers' contents. -/
def Obligations.ResetGivesTheResetValues : Prop :=
  ∀ s : State, ∃ t, exec .reset s = .next t
    ∧ t.rx.state = .waitStart ∧ t.rx.len = 0 ∧ t.rx.idx = 0 ∧ t.rx.ck = s.cfg.ckInit ∧ t.rx.ckrx = 0
    ∧ t.tx.state = .idle ∧ t.tx.len = 0 ∧ t.tx.idx = 0 ∧ t.tx.ck = s.cfg.ckInit
    ∧ t.rxN = 0 ∧ t.rxEvent = .none ∧ t.txEvent = .none ∧ t.emitted = none ∧ t.cfg = s.cfg

/-- 10_state.md R31 of the machine's first state. That its configuration is profile P0 and that no input is pending are
the model's choices (log entries 1 and 4). -/
def Obligations.PowerOnStateHasTheResetValues : Prop :=
  State.reset.rx.state = .waitStart ∧ State.reset.rx.len = 0 ∧ State.reset.rx.idx = 0 ∧ State.reset.rx.ck = 0x00
  ∧ State.reset.rx.ckrx = 0 ∧ State.reset.tx.state = .idle ∧ State.reset.tx.len = 0 ∧ State.reset.tx.idx = 0
  ∧ State.reset.tx.ck = 0x00 ∧ State.reset.rxN = 0 ∧ State.reset.rxEvent = .none ∧ State.reset.txEvent = .none
  ∧ State.reset.emitted = none ∧ State.reset.cfg = Config.P0 ∧ State.reset.pending = []

/-! ## The checksum accumulator (40_checksum.md) -/

/-- R68: `CK.INIT` on either accumulator; everything else is as before. -/
def Obligations.CkInitSetsTheInitialValue : Prop :=
  ∀ s : State,
    let init : Byte := match s.cfg.ckAlg with
      | .xor8 => 0x00
      | .add8 => 0x00
      | .crc8 _ init => init
    exec (.ckInit .rx) s = .next { s.quiet with rx := { s.rx with ck := init } }
    ∧ exec (.ckInit .tx) s = .next { s.quiet with tx := { s.tx with ck := init } }

/-- The arithmetic of R69 and R70: `CK.UPDATE` of `XOR8` and of `ADD8` (the sum as a number modulo 256). That the rows of one
algorithm run under every configuration is the model's choice (log entry 10); that `CK_ALG` selects them in the core is
`CkFoldUpdatesByteByByte`. -/
def Obligations.CkUpdateXorAndAdd : Prop :=
  ∀ (s : State) (v : Byte),
    exec (.ckUpdateXor8 .rx v) s = .next { s.quiet with rx := { s.rx with ck := s.rx.ck ^^^ v } }
    ∧ exec (.ckUpdateXor8 .tx v) s = .next { s.quiet with tx := { s.tx with ck := s.tx.ck ^^^ v } }
    ∧ exec (.ckUpdateAdd8 .rx v) s
        = .next { s.quiet with rx := { s.rx with ck := BitVec.ofNat 8 ((s.rx.ck.toNat + v.toNat) % 256) } }
    ∧ exec (.ckUpdateAdd8 .tx v) s
        = .next { s.quiet with tx := { s.tx with ck := BitVec.ofNat 8 ((s.tx.ck.toNat + v.toNat) % 256) } }

/-- The arithmetic of R71 and R72: `crc_bit` on numbers, `(a << 1) mod 256`, xor `POLY` when bit 7 of `a` is set; and
`CK.UPDATE` of `CRC8` as eight of them on `acc xor v`. That `POLY` is an operand, of any value, and that the rows run under
every configuration is the model's choice (log entry 10). -/
def Obligations.CrcShiftsEightTimes : Prop :=
  ∀ (s : State) (poly a v : Byte),
    crcBit poly a
      = (if 128 ≤ a.toNat then BitVec.ofNat 8 (2 * a.toNat % 256) ^^^ poly else BitVec.ofNat 8 (2 * a.toNat % 256))
    ∧ (∃ t, exec (.crcBit poly a) s = .next t ∧ PureFrame s t ∧ t.result = .byte (crcBit poly a))
    ∧ exec (.ckUpdateCrc8 .rx poly v) s
        = .next { s.quiet with rx := { s.rx with ck := (crcBit poly)^[8] (s.rx.ck ^^^ v) } }
    ∧ exec (.ckUpdateCrc8 .tx poly v) s
        = .next { s.quiet with tx := { s.tx with ck := (crcBit poly)^[8] (s.tx.ck ^^^ v) } }

/-- R73 over R69, R70 and R71: `CK_ALG` selects `CK_INIT` and `CK_STEP`, and the `CK.UPDATE` row of that algorithm is
`CK_STEP` on the accumulator; `CK.FOLD` completes in every state, and its result is `CK.INIT` and then one `CK.UPDATE` per
byte, the first byte first. -/
def Obligations.CkFoldUpdatesByteByByte : Prop :=
  ∀ (s : State) (p : List Byte) (a v : Byte),
    (s.cfg.ckAlg = .xor8 → s.cfg.ckInit = 0x00 ∧ s.cfg.ckStep a v = a ^^^ v
      ∧ exec (.ckUpdateXor8 .rx v) s = .next { s.quiet with rx := { s.rx with ck := s.cfg.ckStep s.rx.ck v } }
      ∧ exec (.ckUpdateXor8 .tx v) s = .next { s.quiet with tx := { s.tx with ck := s.cfg.ckStep s.tx.ck v } })
    ∧ (s.cfg.ckAlg = .add8 → s.cfg.ckInit = 0x00
      ∧ s.cfg.ckStep a v = BitVec.ofNat 8 ((a.toNat + v.toNat) % 256)
      ∧ exec (.ckUpdateAdd8 .rx v) s = .next { s.quiet with rx := { s.rx with ck := s.cfg.ckStep s.rx.ck v } }
      ∧ exec (.ckUpdateAdd8 .tx v) s = .next { s.quiet with tx := { s.tx with ck := s.cfg.ckStep s.tx.ck v } })
    ∧ (∀ poly init, s.cfg.ckAlg = .crc8 poly init → s.cfg.ckInit = init
      ∧ s.cfg.ckStep a v = (crcBit poly)^[8] (a ^^^ v)
      ∧ exec (.ckUpdateCrc8 .rx poly v) s = .next { s.quiet with rx := { s.rx with ck := s.cfg.ckStep s.rx.ck v } }
      ∧ exec (.ckUpdateCrc8 .tx poly v) s = .next { s.quiet with tx := { s.tx with ck := s.cfg.ckStep s.tx.ck v } })
    ∧ (∃ t, exec (.ckFold p) s = .next t ∧ PureFrame s t ∧ t.result = .byte (foldOf s.cfg p))
    ∧ s.cfg.ckFold p = foldOf s.cfg p ∧ s.cfg.ckFold [] = s.cfg.ckInit
    ∧ s.cfg.ckFold (p ++ [v]) = s.cfg.ckStep (s.cfg.ckFold p) v

/-- R76: for every algorithm of a well-formed configuration, `CK_STEP` is a bijection in each argument; so a change of
one byte of a sequence changes its checksum. -/
def Obligations.ChecksumSeesEveryOneByteChange : Prop :=
  ∀ c : Config, c.wf = true →
    (∀ a, Function.Bijective fun v => c.ckStep a v)
    ∧ (∀ v, Function.Bijective fun a => c.ckStep a v)
    ∧ ∀ (p q : List Byte) (v w : Byte), v ≠ w → c.ckFold (p ++ [v] ++ q) ≠ c.ckFold (p ++ [w] ++ q)

/-! ## The frame encoder TX (41_encoder.md) -/

/-- R77: the pure function, under a well-formed configuration. -/
def Obligations.EncodeFrameAnswersTheFrame : Prop :=
  ∀ (s : State) (p : List Byte), s.cfg.wf = true → ∃ t, exec (.encodeFrame p) s = .next t ∧ PureFrame s t
    ∧ t.result = (if p.length > s.cfg.maxPayload then .error .payloadTooLarge else .bytes (frameOf s.cfg p))

/-- R79: `TX.SEND` in every state of TX, its three arms in the order of their tests. -/
def Obligations.SendLoadsOrRefuses : Prop :=
  ∀ (s : State) (p : List Byte), s.cfg.wf = true → ∃ t, exec (.txSend p) s = .next t ∧ TxFrame s t
    ∧ t.emitted = none
    ∧ if s.tx.state ≠ .idle then t.tx = s.tx ∧ t.txEvent = .txError .txBusy
      else if p.length > s.cfg.maxPayload then t.tx = s.tx ∧ t.txEvent = .txError .payloadTooLarge
      else t.txEvent = .none ∧ t.tx.state = .emitStart ∧ t.tx.len.toNat = p.length ∧ t.tx.idx = 0
        ∧ t.tx.ck = foldOf s.cfg p ∧ t.tx.epoch = s.tx.epoch
        ∧ ∀ i, t.tx.read i = (p[i]?).getD (s.tx.read i)

/-- R80, R81, R82, R88: `TX.TAKE` in the states that emit a marker, the length, or nothing. -/
def Obligations.TakeEmitsMarkersAndLength : Prop :=
  ∀ s : State, s.cfg.wf = true →
    (s.tx.state = .idle → ∃ t, exec .txTakeIdle s = .next t ∧ TxFrame s t ∧ t.tx = s.tx
      ∧ t.emitted = none ∧ t.txEvent = .none)
    ∧ (s.tx.state = .emitStart → ∃ t, exec .txTakeEmitStart s = .next t ∧ TxFrame s t
      ∧ t.tx = { s.tx with state := .emitLen } ∧ t.emitted = some s.cfg.start ∧ t.txEvent = .none)
    ∧ (s.tx.state = .emitLen → ∃ t, exec .txTakeEmitLen s = .next t ∧ TxFrame s t
      ∧ t.tx = { s.tx with state := if s.tx.len = 0 then .emitCk else .emitData }
      ∧ t.emitted = some s.tx.len ∧ t.txEvent = .none)
    ∧ (s.tx.state = .emitStop → ∃ t, exec .txTakeEmitStop s = .next t ∧ TxFrame s t
      ∧ t.tx = { s.tx with state := .idle } ∧ t.emitted = some s.cfg.stop ∧ t.txEvent = .txDone)

/-- R83, R84, R85: `TX.TAKE` in the two states of the payload field, for an index in range (20_memory.md R36). -/
def Obligations.TakeEmitsPayloadStuffed : Prop :=
  ∀ s : State, s.cfg.wf = true → s.tx.idx.toNat < s.cfg.maxPayload →
    let v := s.tx.read s.tx.idx.toNat
    let advanced : TxRegs := { s.tx with
      idx := s.tx.idx + 1
      state := if s.tx.idx + 1 = s.tx.len then .emitCk else .emitData }
    (s.tx.state = .emitData → ∃ t, exec .txTakeEmitData s = .next t ∧ TxFrame s t ∧ t.txEvent = .none
      ∧ (Reserved s.cfg v → t.emitted = some s.cfg.esc ∧ t.tx = { s.tx with state := .emitDataEsc2 })
      ∧ (¬ Reserved s.cfg v → t.emitted = some v ∧ t.tx = advanced))
    ∧ (s.tx.state = .emitDataEsc2 → ∃ t, exec .txTakeEmitDataEsc2 s = .next t ∧ TxFrame s t ∧ t.txEvent = .none
      ∧ t.emitted = some (v ^^^ s.cfg.escXor) ∧ t.tx = advanced)

/-- R86, R87: `TX.TAKE` in the two states of the checksum field. -/
def Obligations.TakeEmitsChecksumStuffed : Prop :=
  ∀ s : State, s.cfg.wf = true →
    (s.tx.state = .emitCk → ∃ t, exec .txTakeEmitCk s = .next t ∧ TxFrame s t ∧ t.txEvent = .none
      ∧ (Reserved s.cfg s.tx.ck → t.emitted = some s.cfg.esc ∧ t.tx = { s.tx with state := .emitCkEsc2 })
      ∧ (¬ Reserved s.cfg s.tx.ck → t.emitted = some s.tx.ck ∧ t.tx = { s.tx with state := .emitStop }))
    ∧ (s.tx.state = .emitCkEsc2 → ∃ t, exec .txTakeEmitCkEsc2 s = .next t ∧ TxFrame s t ∧ t.txEvent = .none
      ∧ t.emitted = some (s.tx.ck ^^^ s.cfg.escXor) ∧ t.tx = { s.tx with state := .emitStop })

/-- R89: `TX.WERR` in every state of TX. -/
def Obligations.WriteErrorAbandonsTheFrame : Prop :=
  ∀ s : State, s.cfg.wf = true → ∃ t, exec .txWerr s = .next t ∧ TxFrame s t ∧ t.emitted = none
    ∧ if s.tx.state = .idle then t.tx = s.tx ∧ t.txEvent = .none
      else t.tx = { s.tx with state := .idle } ∧ t.txEvent = .txError .transportError

/-- The procedure `advance` of R85 on its own. Over all states it also says that an index of 255 wraps to 0, which R85
excludes and which is the model's choice (log entry 10). -/
def Obligations.AdvanceCountsOneByte : Prop :=
  ∀ s : State, s.cfg.wf = true → ∃ t, exec .advance s = .next t ∧ TxFrame s t ∧ t.emitted = none
    ∧ t.txEvent = .none
    ∧ t.tx = { s.tx with
        idx := s.tx.idx + 1
        state := if s.tx.idx + 1 = s.tx.len then .emitCk else .emitData }

/-- R90: a machine with `tx_state ≠ Idle` leaves it only by emitting `STOP` with `TxDone`, by a write error, or by
`RESET`; `TxDone` is raised by nothing else. -/
def Obligations.OnlyThreeWaysBackToIdle : Prop :=
  ∀ (s t : State) (i : Instr), exec i s = .next t →
    (s.tx.state ≠ .idle → t.tx.state = .idle →
      (t.txEvent = .txDone ∧ t.emitted = some s.cfg.stop ∧ s.tx.state = .emitStop)
      ∨ (t.txEvent = .txError .transportError ∧ i = .txWerr) ∨ i = .reset)
    ∧ (t.txEvent = .txDone → s.tx.state = .emitStop ∧ t.tx.state = .idle ∧ t.emitted = some s.cfg.stop)

/-! ## The procedures of RX (42_decoder.md) -/

/-- `clear` and `resync` of R98; the buffer is left as it is. That `resync` takes every cause, and not only the structural
ones it is used with (60_exceptions.md R141), is the model's choice (log entry 10). -/
def Obligations.ClearAndResyncEmptyTheParser : Prop :=
  ∀ s : State, s.cfg.wf = true →
    (∃ t, exec .clear s = .next t ∧ RxFrame s t ∧ t.rx = clearedRegs s.cfg s.rx ∧ t.rxEvent = .none)
    ∧ ∀ (b : Byte) (cause : Cause), ∃ t, exec (.resync b cause) s = .next t ∧ RxFrame s t ∧ DroppedAt s t b cause

/-- R102: `store(v)`, for an index in range (20_memory.md R36). -/
def Obligations.StoreAppendsOneByte : Prop :=
  ∀ (s : State) (v : Byte), s.cfg.wf = true → s.rx.idx.toNat < s.cfg.maxPayload →
    ∃ t, exec (.store v) s = .next t ∧ RxFrame s t ∧ t.rxEvent = .none ∧ StoredAs s.cfg s.rx t.rx v

/-- R107: `Done` yields a result and immediately resets to `WaitStart`, for a length in range; no state shows code 7. -/
def Obligations.DoneYieldsAndResets : Prop :=
  ∀ s : State, s.status.rxState ≠ 7
    ∧ (s.cfg.wf = true → s.rx.len.toNat ≤ s.cfg.maxPayload →
      ∃ t, exec .done s = .next t ∧ RxFrame s t ∧ t.rx = clearedRegs s.cfg s.rx
        ∧ t.rxEvent = .frameOk ((List.range s.rx.len.toNat).map s.rx.read))

/-! ## The receive parser RX, state by state (42_decoder.md) -/

/-- R99: `RX.BYTE` in `WaitStart`. -/
def Obligations.WaitStartActsOnStartOnly : Prop :=
  ∀ (s : State) (b : Byte), s.cfg.wf = true → s.rx.state = .waitStart →
    ∃ t, exec (.rxByteWaitStart b) s = .next t ∧ RxFrame s t ∧ t.rxEvent = .none
      ∧ t.rx = if b = s.cfg.start then { clearedRegs s.cfg s.rx with state := .readLength } else s.rx

/-- R100: `RX.BYTE` in `ReadLength`, its three arms in the order of their tests. -/
def Obligations.ReadLengthJudgesTheSize : Prop :=
  ∀ (s : State) (b : Byte), s.cfg.wf = true → s.rx.state = .readLength →
    ∃ t, exec (.rxByteReadLength b) s = .next t ∧ RxFrame s t
      ∧ if b.toNat > s.cfg.maxPayload then DroppedAt s t b .lengthExceedsMax
        else if b ≠ s.rxN then DroppedAt s t b .sizeMismatch
        else t.rxEvent = .none
          ∧ t.rx = { s.rx with
              len := b, idx := 0, ck := s.cfg.ckInit
              state := if b = 0 then .readChecksum else .readPayload }

/-- R101: `RX.BYTE` in `ReadPayload`, for an index in range. -/
def Obligations.ReadPayloadStoresOrEscapes : Prop :=
  ∀ (s : State) (b : Byte), s.cfg.wf = true → s.rx.state = .readPayload → s.rx.idx.toNat < s.cfg.maxPayload →
    ∃ t, exec (.rxByteReadPayload b) s = .next t ∧ RxFrame s t
      ∧ if b = s.cfg.esc then t.rxEvent = .none ∧ t.rx = { s.rx with state := .readEscapedByte }
        else if b = s.cfg.start ∨ b = s.cfg.stop then DroppedAt s t b .unescapedMarker
        else t.rxEvent = .none ∧ StoredAs s.cfg s.rx t.rx b

/-- R103: `RX.BYTE` in `ReadEscapedByte`, for an index in range. -/
def Obligations.ReadEscapedByteUnescapes : Prop :=
  ∀ (s : State) (b : Byte), s.cfg.wf = true → s.rx.state = .readEscapedByte → s.rx.idx.toNat < s.cfg.maxPayload →
    ∃ t, exec (.rxByteReadEscapedByte b) s = .next t ∧ RxFrame s t
      ∧ (Reserved s.cfg (b ^^^ s.cfg.escXor) →
          t.rxEvent = .none ∧ StoredAs s.cfg s.rx t.rx (b ^^^ s.cfg.escXor))
      ∧ (¬ Reserved s.cfg (b ^^^ s.cfg.escXor) → DroppedAt s t b .badEscape)

/-- R104: `RX.BYTE` in `ReadChecksum`. -/
def Obligations.ReadChecksumHoldsTheByte : Prop :=
  ∀ (s : State) (b : Byte), s.cfg.wf = true → s.rx.state = .readChecksum →
    ∃ t, exec (.rxByteReadChecksum b) s = .next t ∧ RxFrame s t
      ∧ if b = s.cfg.esc then t.rxEvent = .none ∧ t.rx = { s.rx with state := .readEscapedChecksum }
        else if b = s.cfg.start ∨ b = s.cfg.stop then DroppedAt s t b .unescapedMarker
        else t.rxEvent = .none ∧ t.rx = { s.rx with ckrx := b, state := .expectStop }

/-- R105: `RX.BYTE` in `ReadEscapedChecksum`. -/
def Obligations.ReadEscapedChecksumUnescapes : Prop :=
  ∀ (s : State) (b : Byte), s.cfg.wf = true → s.rx.state = .readEscapedChecksum →
    ∃ t, exec (.rxByteReadEscapedChecksum b) s = .next t ∧ RxFrame s t
      ∧ (Reserved s.cfg (b ^^^ s.cfg.escXor) →
          t.rxEvent = .none ∧ t.rx = { s.rx with ckrx := b ^^^ s.cfg.escXor, state := .expectStop })
      ∧ (¬ Reserved s.cfg (b ^^^ s.cfg.escXor) → DroppedAt s t b .badEscape)

/-- R106: `RX.BYTE` in `ExpectStop`, its three arms in the order of their tests, for a length in range. -/
def Obligations.ExpectStopJudgesTheFrame : Prop :=
  ∀ (s : State) (b : Byte), s.cfg.wf = true → s.rx.state = .expectStop → s.rx.len.toNat ≤ s.cfg.maxPayload →
    ∃ t, exec (.rxByteExpectStop b) s = .next t ∧ RxFrame s t
      ∧ if b ≠ s.cfg.stop then DroppedAt s t b .missingStop
        else t.rx = clearedRegs s.cfg s.rx
          ∧ t.rxEvent = if s.rx.ckrx ≠ s.rx.ck then .drop .checksumError
              else .frameOk ((List.range s.rx.len.toNat).map s.rx.read)

/-- R108, R109: `RX.TIMEOUT` and `RX.IOERR` in every state of RX. -/
def Obligations.TimeoutAndIoErrorClear : Prop :=
  ∀ s : State, s.cfg.wf = true →
    (∃ t, exec .rxTimeout s = .next t ∧ RxFrame s t
      ∧ if s.rx.state = .waitStart then t.rx = s.rx ∧ t.rxEvent = .none
        else t.rx = clearedRegs s.cfg s.rx ∧ t.rxEvent = .drop .timeout)
    ∧ ∃ t, exec .rxIoerr s = .next t ∧ RxFrame s t
      ∧ t.rx = clearedRegs s.cfg s.rx ∧ t.rxEvent = .drop .transportError

/-- R110: `CFG.SETN` writes `RX_N` and nothing else. -/
def Obligations.SetnWritesRxNOnly : Prop :=
  ∀ (s : State) (n : Byte), ∃ t, exec (.cfgSetn n) s = .next t
    ∧ t.rxN = n ∧ t.cfg = s.cfg ∧ t.rx = s.rx ∧ t.tx = s.tx ∧ t.wireOut = s.wireOut ∧ t.pending = s.pending
    ∧ t.rxEvent = .none ∧ t.txEvent = .none ∧ t.emitted = none ∧ t.result = .none

/-! ## The WIRE rows at their positions (30_encoding.md R58, R60) -/

/-- The rows between frames and at the `LEN` position. -/
def Obligations.WireRowsStartAndLength : Prop :=
  ∀ (s : State) (b : Byte), s.cfg.wf = true →
    (s.rx.state = .waitStart →
      (∃ t, exec .sof s = .next t ∧ RxFrame s t ∧ t.rxEvent = .none
        ∧ t.rx = { clearedRegs s.cfg s.rx with state := .readLength })
      ∧ (b ≠ s.cfg.start → ∃ t, exec (.fill b) s = .next t ∧ RxFrame s t ∧ t.rxEvent = .none ∧ t.rx = s.rx))
    ∧ (s.rx.state = .readLength →
      (b.toNat > s.cfg.maxPayload →
        ∃ t, exec (.illLenMax b) s = .next t ∧ RxFrame s t ∧ DroppedAt s t b .lengthExceedsMax)
      ∧ (b.toNat ≤ s.cfg.maxPayload → b ≠ s.rxN →
        ∃ t, exec (.illLenSize b) s = .next t ∧ RxFrame s t ∧ DroppedAt s t b .sizeMismatch)
      ∧ (b.toNat ≤ s.cfg.maxPayload → b = s.rxN →
        ∃ t, exec (.len b) s = .next t ∧ RxFrame s t ∧ t.rxEvent = .none
          ∧ t.rx = { s.rx with
              len := b, idx := 0, ck := s.cfg.ckInit
              state := if b = 0 then .readChecksum else .readPayload }))

/-- The rows of the payload field, for an index in range. -/
def Obligations.WireRowsPayloadField : Prop :=
  ∀ (s : State) (b : Byte), s.cfg.wf = true → s.rx.idx.toNat < s.cfg.maxPayload →
    (s.rx.state = .readPayload →
      (∃ t, exec .esc s = .next t ∧ RxFrame s t ∧ t.rxEvent = .none ∧ t.rx = { s.rx with state := .readEscapedByte })
      ∧ (b = s.cfg.start ∨ b = s.cfg.stop →
        ∃ t, exec (.illMarkData b) s = .next t ∧ RxFrame s t ∧ DroppedAt s t b .unescapedMarker)
      ∧ (¬ Reserved s.cfg b →
        ∃ t, exec (.data b) s = .next t ∧ RxFrame s t ∧ t.rxEvent = .none ∧ StoredAs s.cfg s.rx t.rx b))
    ∧ (s.rx.state = .readEscapedByte →
      (∃ t, exec .escdStart s = .next t ∧ RxFrame s t ∧ t.rxEvent = .none ∧ StoredAs s.cfg s.rx t.rx s.cfg.start)
      ∧ (∃ t, exec .escdStop s = .next t ∧ RxFrame s t ∧ t.rxEvent = .none ∧ StoredAs s.cfg s.rx t.rx s.cfg.stop)
      ∧ (∃ t, exec .escdEsc s = .next t ∧ RxFrame s t ∧ t.rxEvent = .none ∧ StoredAs s.cfg s.rx t.rx s.cfg.esc)
      ∧ (¬ Reserved s.cfg (b ^^^ s.cfg.escXor) →
        ∃ t, exec (.illEscData b) s = .next t ∧ RxFrame s t ∧ DroppedAt s t b .badEscape))

/-- The rows of the checksum field and at the end; for `EOF` the length is in range. -/
def Obligations.WireRowsChecksumFieldAndEnd : Prop :=
  ∀ (s : State) (b : Byte), s.cfg.wf = true →
    (s.rx.state = .readChecksum →
      (∃ t, exec .escCk s = .next t ∧ RxFrame s t ∧ t.rxEvent = .none
        ∧ t.rx = { s.rx with state := .readEscapedChecksum })
      ∧ (b = s.cfg.start ∨ b = s.cfg.stop →
        ∃ t, exec (.illMarkCk b) s = .next t ∧ RxFrame s t ∧ DroppedAt s t b .unescapedMarker)
      ∧ (¬ Reserved s.cfg b →
        ∃ t, exec (.cks b) s = .next t ∧ RxFrame s t ∧ t.rxEvent = .none
          ∧ t.rx = { s.rx with ckrx := b, state := .expectStop }))
    ∧ (s.rx.state = .readEscapedChecksum →
      (∃ t, exec .esckStart s = .next t ∧ RxFrame s t ∧ t.rxEvent = .none
        ∧ t.rx = { s.rx with ckrx := s.cfg.start, state := .expectStop })
      ∧ (∃ t, exec .esckStop s = .next t ∧ RxFrame s t ∧ t.rxEvent = .none
        ∧ t.rx = { s.rx with ckrx := s.cfg.stop, state := .expectStop })
      ∧ (∃ t, exec .esckEsc s = .next t ∧ RxFrame s t ∧ t.rxEvent = .none
        ∧ t.rx = { s.rx with ckrx := s.cfg.esc, state := .expectStop })
      ∧ (¬ Reserved s.cfg (b ^^^ s.cfg.escXor) →
        ∃ t, exec (.illEscCk b) s = .next t ∧ RxFrame s t ∧ DroppedAt s t b .badEscape))
    ∧ (s.rx.state = .expectStop →
      (s.rx.len.toNat ≤ s.cfg.maxPayload →
        ∃ t, exec .eof s = .next t ∧ RxFrame s t ∧ t.rx = clearedRegs s.cfg s.rx
          ∧ t.rxEvent = if s.rx.ck = s.rx.ckrx then .frameOk ((List.range s.rx.len.toNat).map s.rx.read)
              else .drop .checksumError)
      ∧ (b ≠ s.cfg.stop → ∃ t, exec (.illStop b) s = .next t ∧ RxFrame s t ∧ DroppedAt s t b .missingStop))

/-- 30_encoding.md R58, spec/opcode_table.json ("decode by the WIRE rows"): the row `RX.BYTE` of RX's state and the WIRE
row the byte is at that state do the same, in every state and for every byte; and the rows of an agent's state are
`rx_step` and `tx_step` (42_decoder.md R97, 41_encoder.md R78), with nothing written outside the agent: the statements about
`rx_run` are about these rows. -/
def Obligations.ByteRowsAreTheirWireRows : Prop :=
  ∀ (s : State) (b : Byte),
    (s.cfg.wf = true → exec (rxRow s.rx.state (.byte b)) s = exec (wireRow s.context b) s)
    ∧ (∀ u, (∀ r e, rxStep s.cfg s.rxN s.rx u = .ok (r, e) → exec (rxRow s.rx.state u) s = .next (afterRx s r e))
      ∧ ∀ f, rxStep s.cfg s.rxN s.rx u = .error f → exec (rxRow s.rx.state u) s = .fault f)
    ∧ ∀ w, (∀ o, txStep s.cfg s.tx w = .ok o → exec (txRow s.tx.state w) s = .next (afterTx s o))
      ∧ ∀ f, txStep s.cfg s.tx w = .error f → exec (txRow s.tx.state w) s = .fault f

/-! ## Pseudo-tokens, the unused kinds, the buffer bounds -/

/-- 30_encoding.md R66: the expansions, before the inputs to come. A payload that is too large has no frame: `FRAME` then
answers the error and `SENDALL` is `SEND` alone (the model's reading, log entry 13). -/
def Obligations.PseudoTokensExpand : Prop :=
  ∀ (s : State) (p : List Byte) (n : Nat), s.cfg.wf = true →
    (∃ t, exec (.frame p) s = .next t ∧ t.cfg = s.cfg ∧ t.rx = s.rx ∧ t.tx = s.tx ∧ t.rxN = s.rxN
      ∧ t.wireOut = s.wireOut ∧ t.rxEvent = .none ∧ t.txEvent = .none ∧ t.emitted = none
      ∧ (p.length ≤ s.cfg.maxPayload →
          t.pending = (frameOf s.cfg p).map (fun b => .rx (.byte b)) ++ s.pending ∧ t.result = .none)
      ∧ (p.length > s.cfg.maxPayload → t.pending = s.pending ∧ t.result = .error .payloadTooLarge))
    ∧ exec (.takeN n) s = .next { s.quiet with pending := List.replicate n (.tx .take) ++ s.pending }
    ∧ exec (.sendAll p) s = .next { s.quiet with
        pending := .tx (.send p)
          :: (List.replicate (if p.length ≤ s.cfg.maxPayload then (frameOf s.cfg p).length else 0) (.tx .take)
              ++ s.pending) }

/-- 30_encoding.md R64, 93_implementation_defined.md U14: the unused kinds 3 are refused, in every state. -/
def Obligations.UnusedKindsAreRefused : Prop :=
  ∀ (s : State) (low : Byte),
    exec (.rxReserved3 low) s = .refused .rxinKindUnused ∧ exec .txReserved3 s = .refused .txinKindUnused

/-- Where the model stops on a buffer element that does not exist (20_memory.md R32; that it stops is the model's choice,
log entry 11): exactly at or above `MAX_PAYLOAD`. -/
def Obligations.MissingElementsFault : Prop :=
  ∀ (s : State) (v : Byte),
    (exec (.store v) s = .fault .bufferIndexOutOfRange ↔ s.cfg.maxPayload ≤ s.rx.idx.toNat)
    ∧ (exec .done s = .fault .bufferIndexOutOfRange ↔ s.cfg.maxPayload < s.rx.len.toNat)
    ∧ (s.tx.state = .emitData →
        (exec .txTakeEmitData s = .fault .bufferIndexOutOfRange ↔ s.cfg.maxPayload ≤ s.tx.idx.toNat))
    ∧ (s.tx.state = .emitDataEsc2 →
        (exec .txTakeEmitDataEsc2 s = .fault .bufferIndexOutOfRange ↔ s.cfg.maxPayload ≤ s.tx.idx.toNat))

/-! ## Decoding, encoding and the step -/

/-- Words written out from 30_encoding.md R64 and R58 (profile P0) decode to the rows they stand for. -/
def Obligations.SampleWordsDecode : Prop :=
  let at_ (q : RxState) (u : TxState) : Context := { cfg := Config.P0, rxN := 3, rxState := q, txState := u }
  decode (at_ .waitStart .idle) (.wire 0b01111110) = .ok .sof
  ∧ decode (at_ .readPayload .idle) (.wire 0b01111101) = .ok .esc
  ∧ decode (at_ .readEscapedByte .idle) (.wire 0b01011110) = .ok .escdStart
  ∧ decode (at_ .readPayload .idle) (.rxin 0b0000101010) = .ok (.rxByteReadPayload 0x2A)
  ∧ decode (at_ .readPayload .idle) (.rxin 0b0100000000) = .ok .rxTimeout
  ∧ decode (at_ .readPayload .idle) (.rxin 0b1000000000) = .ok .rxIoerr
  ∧ decode (at_ .waitStart .emitCk) (.txin 0b00 []) = .ok .txTakeEmitCk
  ∧ decode (at_ .waitStart .emitCk) (.txin 0b01 [0x09]) = .ok (.txSend [0x09])
  ∧ decode (at_ .waitStart .emitCk) (.txin 0b10 []) = .ok .txWerr

/-- DECODE AND ENCODE AGREE: every well-formed instruction of the encoded formats, met in a state its row belongs to, is
read back from its word with every operand. -/
def Obligations.DecodeOfEncodeGivesBack : Prop :=
  ∀ (x : Context) (i : Instr) (w : Code), x.cfg.wf = true → i.wellFormed x.cfg x.rxN = true →
    i.standsIn x = true → encode x.cfg i = some w → decode x w = .ok i

/-- Every word has one meaning, and no bit of it is dropped: what a word decodes to encodes to that word, its row belongs
to the state it was met in, and it is well formed unless it is one of the unused kinds. -/
def Obligations.EncodeOfDecodeGivesBack : Prop :=
  ∀ (x : Context) (i : Instr) (w : Code), x.cfg.wf = true → decode x w = .ok i →
    encode x.cfg i = some w ∧ i.standsIn x = true
    ∧ (i.wellFormed x.cfg x.rxN = true ∨ (∃ low, i = .rxReserved3 low) ∨ i = .txReserved3)

/-- A STEP RUNS THE DECODED INSTRUCTION: the first pending input is taken, and the row it is at this state is run on the
state without it; an encoded word that is no row is refused. The model's own in this: that the inputs to come are a list
whose head a step takes (log entry 4), that a word which is no row is refused as undecodable (log entries 7 and 8), and
that an operation named directly, a procedure of RX or TX included, runs when called (log entry 10). -/
def Obligations.StepRunsTheDecodedInstruction : Prop :=
  ∀ (s : State) (rest : List Input), s.cfg.wf = true →
    (∀ w i, s.pending = .code w :: rest → decode s.context w = .ok i → step s = exec i { s with pending := rest })
    ∧ (∀ w e, s.pending = .code w :: rest → decode s.context w = .error e → step s = .refused (.undecodable e))
    ∧ (∀ u, s.pending = .rx u :: rest → step s = exec (rxRow s.rx.state u) { s with pending := rest })
    ∧ (∀ u, s.pending = .tx u :: rest → step s = exec (txRow s.tx.state u) { s with pending := rest })
    ∧ (∀ i, s.pending = .call i :: rest → step s = exec i { s with pending := rest })

/-- 60_exceptions.md R147: with no input given, the core is at rest in its state; every register, both buffers and both
streams stay. That a rest takes a step and raises nothing is the model's choice (log entry 4). -/
def Obligations.AtRestNothingChanges : Prop :=
  ∀ s : State, s.cfg.wf = true → s.pending = [] → ∃ t, step s = .next t ∧ PureFrame s t ∧ t.result = .none

/-- 00_scope.md R11: the four conditions, and a configuration that breaks one is refused by every step. -/
def Obligations.IllFormedConfigurationsAreRefused : Prop :=
  ∀ s : State,
    (s.cfg.wf = true ↔
      (s.cfg.esc ≠ s.cfg.start ∧ s.cfg.esc ≠ s.cfg.stop)
      ∧ (∀ r, Reserved s.cfg r → ¬ Reserved s.cfg (r ^^^ s.cfg.escXor))
      ∧ s.cfg.maxPayload ≤ 255
      ∧ ∀ poly init, s.cfg.ckAlg = .crc8 poly init → poly.toNat % 2 = 1)
    ∧ (s.cfg.wf = false → step s = .refused .configNotWellFormed)

/-! ## Invariants (10_state.md R23, R27; 20_memory.md R36) -/

/-- The invariant holds right after reset. It rests on the model's choice of profile P0 (log entry 1) and of an empty input
list (log entry 4) for that state. -/
def Obligations.InvariantHoldsAtReset : Prop := Inv State.reset

/-- AN INVARIANT THAT EVERY STEP KEEPS: 10_state.md R23 and R27 with the buffers' canonical form and bounds, the
outputs' causes (60_exceptions.md R127), and only the core's inputs pending. -/
def Obligations.EveryStepKeepsTheInvariant : Prop :=
  ∀ s t : State, Inv s → step s = .next t → Inv t

/-- 20_memory.md R36, 00_scope.md R12: from a state with the invariant no step faults, and a step on any of the inputs of
10_state.md R14 answers a next state. -/
def Obligations.InputsAlwaysComplete : Prop :=
  ∀ s : State, Inv s →
    (∀ f, step s ≠ .fault f)
    ∧ ((∃ u rest, s.pending = .rx u :: rest) ∨ (∃ u rest, s.pending = .tx u :: rest)
        ∨ (∃ n rest, s.pending = .call (.cfgSetn n) :: rest) ∨ (∃ rest, s.pending = .call .reset :: rest) →
      ∃ t, step s = .next t)

/-! ## Whole-machine rules -/

/-- The frame of every instruction (00_scope.md R6, 10_state.md R13, R28, 20_memory.md R34, R35, R44): the configuration is
never written; `RX_N` only by `CFG.SETN` and `RESET`; a row of the wire or of RX touches nothing of TX and the other way
round; no row but `TX.SEND` and `RESET` writes `tx_buf`; no row but `RESET` writes `rx_buf` anywhere but at `rx_idx`, and one
that does not store, or that does not count a byte in `rx_idx`, writes it nowhere; the wire-out stream only grows, by the
byte the step emits, which only TX emits; only a pseudo-token changes the inputs to come. That `RESET` leaves the wire-out
stream and the inputs to come is the model's reading (log entry 17). -/
def Obligations.WhoMayWriteWhat : Prop :=
  ∀ (i : Instr) (s t : State), exec i s = .next t →
    t.cfg = s.cfg
    ∧ ((∀ n, i ≠ .cfgSetn n) → i ≠ .reset → t.rxN = s.rxN)
    ∧ (i.format = .wire ∨ i.format = .rxin → t.tx = s.tx ∧ t.txEvent = .none)
    ∧ (i.format = .txin → t.rx = s.rx ∧ t.rxEvent = .none)
    ∧ ((∀ p, i ≠ .txSend p) → i ≠ .reset → ∀ a, t.tx.read a = s.tx.read a)
    ∧ (i ≠ .reset → ∀ a, a ≠ s.rx.idx.toNat → t.rx.read a = s.rx.read a)
    ∧ (i ≠ .reset → StoresNothing s i ∨ t.rx.idx ≠ s.rx.idx + 1 → ∀ a, t.rx.read a = s.rx.read a)
    ∧ t.wireOut = s.wireOut ++ t.emitted.toList
    ∧ (i.format ≠ .txin → t.emitted = none)
    ∧ (i.format ≠ .pseudo → t.pending = s.pending)

/-- 10_state.md R13: an RX input and a TX input in either order leave both agents, the wire-out stream and every output
the same, and either order completes when the other does. -/
def Obligations.AgentsAreIndependent : Prop :=
  ∀ (s : State) (u : RxInput) (w : TxInput),
    (∀ a ab, exec (rxRow s.rx.state u) s = .next a → exec (txRow a.tx.state w) a = .next ab →
      ∃ b ba, exec (txRow s.tx.state w) s = .next b ∧ exec (rxRow b.rx.state u) b = .next ba
        ∧ ba.rx = ab.rx ∧ ba.tx = ab.tx ∧ ba.rxN = ab.rxN ∧ ba.wireOut = ab.wireOut ∧ ba.pending = ab.pending
        ∧ ba.rxEvent = a.rxEvent ∧ b.txEvent = ab.txEvent ∧ b.emitted = ab.emitted)
    ∧ (∀ b ba, exec (txRow s.tx.state w) s = .next b → exec (rxRow b.rx.state u) b = .next ba →
      ∃ a ab, exec (rxRow s.rx.state u) s = .next a ∧ exec (txRow a.tx.state w) a = .next ab
        ∧ ba.rx = ab.rx ∧ ba.tx = ab.tx ∧ ba.rxN = ab.rxN ∧ ba.wireOut = ab.wireOut ∧ ba.pending = ab.pending
        ∧ ba.rxEvent = a.rxEvent ∧ b.txEvent = ab.txEvent ∧ b.emitted = ab.emitted)

/-- 42_decoder.md R123: where RX events arise. -/
def Obligations.WhereEventsArise : Prop :=
  (∀ (c : Config) (n : Byte) (r r' : RxRegs) (u : RxInput) (e : RxEvent), c.wf = true →
    rxStep c n r u = .ok (r', e) →
      ((∃ p, e = .frameOk p) ∨ e = .drop .checksumError → u = .byte c.stop ∧ r.state = .expectStop)
      ∧ (r.state = .waitStart → (∃ b, u = .byte b) → e = .none))
  ∧ ∀ (c : Config) (n : Byte) (r r' : RxRegs) (us : List RxInput) (es : List RxEvent), c.wf = true →
    rxRun c n r us = .ok (r', es) →
      es.length = us.length ∧ es.countP isFrameOk ≤ us.count (.byte c.stop)

/-- 70_reset_and_hazards.md R156: `RX_N` is read only in the step that judges the `LEN` byte. -/
def Obligations.RxNIsReadAtTheLengthOnly : Prop :=
  ∀ (s t : State) (n : Byte) (u : RxInput), s.cfg.wf = true → s.rx.state ≠ .readLength →
    exec (rxRow s.rx.state u) s = .next t →
    exec (rxRow s.rx.state u) { s with rxN := n } = .next { t with rxN := n }

/-- 42_decoder.md R121: the registers after `FrameOk`, after every `Drop` and after `RESET`, and no later event depends on
what the buffer held. -/
def Obligations.NothingLeaksBetweenFrames : Prop :=
  (∀ (c : Config) (n : Byte) (r r' : RxRegs) (u : RxInput) (e : RxEvent), c.wf = true →
    rxStep c n r u = .ok (r', e) → e ≠ .none → r'.isCleared c)
  ∧ (∀ s t : State, exec .reset s = .next t → t.rx.isCleared s.cfg)
  ∧ ∀ (c : Config) (n : Byte) (q r : RxRegs) (us : List RxInput), c.wf = true →
    q.isCleared c → r.isCleared c → q.state = r.state → (r.state = .waitStart ∨ r.state = .readLength) →
    ∃ q' r' es, rxRun c n q us = .ok (q', es) ∧ rxRun c n r us = .ok (r', es)

/-- 42_decoder.md R124: fill and timeouts between frames change nothing and raise nothing. -/
def Obligations.FillIsInvisible : Prop :=
  ∀ (c : Config) (n : Byte) (r : RxRegs) (us : List RxInput), c.wf = true → r.state = .waitStart →
    (∀ u ∈ us, u = .timeout ∨ ∃ b, u = .byte b ∧ b ≠ c.start) →
    rxRun c n r us = .ok (r, List.replicate us.length .none)

/-! ## Frames (41_encoder.md R92 to R94, 30_encoding.md R55) -/

/-- R92, R93, R94, and that `esc` is injective (30_encoding.md R55). Between `LEN` and `STOP` stand the payload field and
the checksum field; in them no marker stands, and `ESC` only before an escaped form of a reserved value; the payload
field has `k` escape sequences, the checksum field `e`, and the frame has `N + 4 + k + e` bytes. -/
def Obligations.FramesHoldNoRawMarker : Prop :=
  ∀ (c : Config) (p : List Byte), c.wf = true → p.length ≤ c.maxPayload →
    let k := p.countP fun v => decide (v = c.start ∨ v = c.stop ∨ v = c.esc)
    let e := if foldOf c p = c.start ∨ foldOf c p = c.stop ∨ foldOf c p = c.esc then 1 else 0
    (∀ v w, c.stuff v = c.stuff w → v = w)
    ∧ ∃ field ck, encodeFrame c p = .ok ([c.start, BitVec.ofNat 8 p.length] ++ (field ++ ck) ++ [c.stop])
      ∧ (∀ b ∈ field ++ ck, b ≠ c.start ∧ b ≠ c.stop)
      ∧ (∀ i, (field ++ ck)[i]? = some c.esc → ∃ v, Reserved c v ∧ (field ++ ck)[i + 1]? = some (v ^^^ c.escXor))
      ∧ field.count c.esc = k ∧ ck.count c.esc = e
      ∧ field.length = p.length + k ∧ ck.length = 1 + e
      ∧ ([c.start, BitVec.ofNat 8 p.length] ++ (field ++ ck) ++ [c.stop]).length = p.length + 4 + k + e
      ∧ p.length + 4 + k + e ≤ 2 * p.length + 5

/-! ## Running over a sequence -/

/-- MACHINE EQUALS FUNCTION, R91, on the steps of the machine: after `Send(p)` in `Idle`, the next `|encode_frame(p)|`
inputs `Take` emit exactly the bytes of the frame, one per step and in order; the last raises `TxDone` and leaves `Idle`,
no earlier one raises an event. And `Send(p)` raises `TxError(PayloadTooLarge)` from `Idle` exactly when `encode_frame(p)`
is the error. -/
def Obligations.MachineEmitsTheFrame : Prop :=
  ∀ (s : State) (p : List Byte) (rest : List Input), s.cfg.wf = true → s.tx.state = .idle →
    (p.length ≤ s.cfg.maxPayload →
      s.pending = .tx (.send p) :: (List.replicate (frameOf s.cfg p).length (.tx .take) ++ rest) →
      ∀ k, k ≤ (frameOf s.cfg p).length → ∃ t, steps (k + 1) s = .next t
        ∧ t.wireOut = s.wireOut ++ (frameOf s.cfg p).take k
        ∧ t.emitted = (if k = 0 then none else (frameOf s.cfg p)[k - 1]?)
        ∧ t.txEvent = (if k = (frameOf s.cfg p).length then .txDone else .none)
        ∧ (k = (frameOf s.cfg p).length → t.tx.state = .idle ∧ t.pending = rest)
        ∧ t.rx = s.rx)
    ∧ (∀ t, exec (.txSend p) s = .next t →
        (t.txEvent = .txError .payloadTooLarge ↔ encodeFrame s.cfg p = .error .payloadTooLarge))

/-- ROUND TRIP, R112, on the steps of the machine: the bytes of a frame for `RX_N`, given to RX in `WaitStart`, raise
`None` at every byte but the last and `FrameOk(p)` at the last, and leave the cleared values. -/
def Obligations.ReceivingAFrameGivesItsPayload : Prop :=
  ∀ (s : State) (p : List Byte) (rest : List Input), s.cfg.wf = true → p.length ≤ s.cfg.maxPayload →
    s.rxN.toNat = p.length → s.rx.state = .waitStart →
    s.pending = (frameOf s.cfg p).map (fun b => .rx (.byte b)) ++ rest →
    (∀ k, 1 ≤ k → k < (frameOf s.cfg p).length → ∃ t, steps k s = .next t ∧ t.rxEvent = .none)
    ∧ ∃ t, steps (frameOf s.cfg p).length s = .next t ∧ t.rxEvent = .frameOk p ∧ t.pending = rest
      ∧ t.rx.state = .waitStart ∧ t.rx.isCleared s.cfg ∧ t.tx = s.tx

/-- ONLY FRAMES ARE ACCEPTED, R113: from `WaitStart`, a sequence that begins with `START` raises `None` at every byte but
the last and `FrameOk(q)` at the last if and only if it is `encode_frame(q)` with `|q| = RX_N`. -/
def Obligations.OnlyFramesAreAccepted : Prop :=
  ∀ (c : Config) (n : Byte) (r : RxRegs) (bs q : List Byte), c.wf = true → r.state = .waitStart →
    bs.head? = some c.start →
    ((∃ r', rxRun c n r (byteInputs bs) = .ok (r', List.replicate (bs.length - 1) .none ++ [.frameOk q]))
      ↔ encodeFrame c q = .ok bs ∧ q.length = n.toNat)

/-- RESYNCHRONISATION, R114: two frames for `RX_N` with any bytes `g` between them. (a) the first is accepted; (b) without
`START` in `g` exactly the two are, and nothing of `g` raises an event; (c) with any `g` the second is accepted unless its
`START` is consumed as a length or as a stop marker; (d) a `FrameOk` raised inside `g` is a whole frame in `g`. -/
def Obligations.ResynchronisesAfterGarbage : Prop :=
  ∀ (c : Config) (n : Byte) (r : RxRegs) (p₁ p₂ g : List Byte), c.wf = true → r.state = .waitStart →
    p₁.length = n.toNat → p₂.length = n.toNat → n.toNat ≤ c.maxPayload →
    ∃ r₁ r₂ r₃ eg e₂,
      rxRun c n r (byteInputs (frameOf c p₁)) = .ok (r₁, frameEvents c p₁)
      ∧ rxRun c n r₁ (byteInputs g) = .ok (r₂, eg)
      ∧ rxRun c n r₂ (byteInputs (frameOf c p₂)) = .ok (r₃, e₂)
      ∧ rxRun c n r (byteInputs (frameOf c p₁ ++ g ++ frameOf c p₂)) = .ok (r₃, frameEvents c p₁ ++ eg ++ e₂)
      ∧ (c.isFill g → eg = List.replicate g.length .none ∧ r₂.state = .waitStart ∧ e₂ = frameEvents c p₂)
      ∧ (¬ (r₂.state = .readLength ∧ c.start = n) → ¬ (r₂.state = .expectStop ∧ c.start = c.stop) →
          e₂.getLast? = some (.frameOk p₂))
      ∧ (∀ q, .frameOk q ∈ eg → ∃ g₁ g₂, g = g₁ ++ frameOf c q ++ g₂ ∧ q.length = n.toNat)

/-- R115: from any state with the RX invariant (10_state.md R23), `Timeout` and `IoError` leave `WaitStart` with the
cleared values, and a following frame for `RX_N` is decoded; and so it is from the registers `RESET` leaves. -/
def Obligations.RecoversAfterTimeout : Prop :=
  ∀ (c : Config) (n : Byte) (r : RxRegs) (u : RxInput) (p : List Byte), c.wf = true → RxInv c r →
    u = .timeout ∨ u = .ioError → p.length = n.toNat → n.toNat ≤ c.maxPayload →
    (∃ r' e r'', rxStep c n r u = .ok (r', e) ∧ r'.state = .waitStart ∧ r'.isCleared c
      ∧ rxRun c n r' (byteInputs (frameOf c p)) = .ok (r'', frameEvents c p))
    ∧ ∀ s t : State, s.cfg = c → exec .reset s = .next t →
      t.rx.state = .waitStart ∧ t.rx.isCleared c
        ∧ ∃ r'', rxRun c n t.rx (byteInputs (frameOf c p)) = .ok (r'', frameEvents c p)

/-- R116: a frame of the wrong size stores nothing and raises no `FrameOk`; the rest of it, unless it contains `START`, is
fill. -/
def Obligations.WrongSizeStoresNothing : Prop :=
  ∀ (c : Config) (n l : Byte) (r : RxRegs) (bs : List Byte), c.wf = true → r.state = .waitStart → l ≠ n →
    ∃ r' cause, rxRun c n r (byteInputs [c.start, l]) = .ok (r', [.none, .drop cause])
      ∧ (cause = if l.toNat > c.maxPayload then .lengthExceedsMax else .sizeMismatch)
      ∧ r'.buf = r.buf ∧ r'.isCleared c ∧ r'.state = (if l = c.start then .readLength else .waitStart)
      ∧ (l ≠ c.start → c.isFill bs →
          rxRun c n r (byteInputs ([c.start, l] ++ bs))
            = .ok (r', [.none, .drop cause] ++ List.replicate bs.length .none))

/-- SINGLE-BIT DAMAGE, R117: a frame for `RX_N` with one bit of one byte of its payload or checksum field changed raises
no `FrameOk` from `WaitStart`. -/
def Obligations.SingleBitDamageIsRejected : Prop :=
  ∀ (c : Config) (n : Byte) (r : RxRegs) (p a z : List Byte) (w : Byte) (k : Nat), c.wf = true →
    r.state = .waitStart → p.length = n.toNat → n.toNat ≤ c.maxPayload →
    frameOf c p = a ++ [w] ++ z → 2 ≤ a.length → z ≠ [] → k < 8 →
    ∃ r' es, rxRun c n r (byteInputs (a ++ [w ^^^ (1#8 <<< k)] ++ z)) = .ok (r', es) ∧ ∀ q, .frameOk q ∉ es

/-- PROGRESS, R118, for a frame in flight of at most the size `RX_N`: among any `2 * RX_N + 5` consecutive bytes there is one
after which RX has raised an event or stands in `WaitStart`. (As R118 words it, from any state, it does not hold when
`CFG.SETN` has lowered `RX_N` under a frame in flight; log entry 20.) -/
def Obligations.ParserNeverHangs : Prop :=
  ∀ (c : Config) (n : Byte) (r : RxRegs) (bs : List Byte), c.wf = true → RxInv c r →
    (r.state ≠ .waitStart → r.state ≠ .readLength → r.len.toNat ≤ n.toNat) → bs.length = 2 * n.toNat + 5 →
    ∃ k r' es, k < bs.length ∧ rxRun c n r (byteInputs (bs.take (k + 1))) = .ok (r', es)
      ∧ (r'.state = .waitStart ∨ es.getLast? ≠ some .none)

/-- R119, R122: the host's receive call on a frame for its size returns the payload and leaves the rest of the stream,
and `decode_frame(encode_frame(p))` is `p`. -/
def Obligations.ReceiveCallReturnsThePayload : Prop :=
  ∀ (c : Config) (n : Byte) (r : RxRegs) (p : List Byte) (rest : List RxInput), c.wf = true →
    r.state = .waitStart → p.length = n.toNat → n.toNat ≤ c.maxPayload →
    (∃ r', tryReceive c n r (byteInputs (frameOf c p) ++ rest) = .ok (.payload p, r', rest) ∧ r'.state = .waitStart)
    ∧ decodeFrame c n (frameOf c p) = .ok (some p)

/-- What the host reads: each field of the status view (10_state.md R29) is its register, the two states by the codes of
R17 and R24, and `RX_STATE` never reads 7; the codes of causes and events (60_exceptions.md R126, R127); and the host's
projections of the events (R128, R145). That `send` answers `TxError(TxBusy)` with that error is the model's choice (log
entry 21). -/
def Obligations.StatusShowsTheRegisters : Prop :=
  (∀ s : State,
    s.status.rxState = (match s.rx.state with
      | .waitStart => 0
      | .readLength => 1
      | .readPayload => 2
      | .readEscapedByte => 3
      | .readChecksum => 4
      | .readEscapedChecksum => 5
      | .expectStop => 6)
    ∧ s.status.txState = (match s.tx.state with
      | .idle => 0
      | .emitStart => 1
      | .emitLen => 2
      | .emitData => 3
      | .emitDataEsc2 => 4
      | .emitCk => 5
      | .emitCkEsc2 => 6
      | .emitStop => 7)
    ∧ s.status.rxState ≠ 7
    ∧ s.status.rxLen = s.rx.len ∧ s.status.rxIdx = s.rx.idx ∧ s.status.rxCk = s.rx.ck ∧ s.status.rxCkrx = s.rx.ckrx
    ∧ s.status.txLen = s.tx.len ∧ s.status.txIdx = s.tx.idx ∧ s.status.txCk = s.tx.ck ∧ s.status.rxN = s.rxN
    ∧ (∀ t : State, s.status = t.status →
        s.rx.state = t.rx.state ∧ s.rx.len = t.rx.len ∧ s.rx.idx = t.rx.idx ∧ s.rx.ck = t.rx.ck
        ∧ s.rx.ckrx = t.rx.ckrx ∧ s.tx.state = t.tx.state ∧ s.tx.len = t.tx.len ∧ s.tx.idx = t.tx.idx
        ∧ s.tx.ck = t.tx.ck ∧ s.rxN = t.rxN))
  ∧ (Cause.lengthExceedsMax.code = 1 ∧ Cause.sizeMismatch.code = 2 ∧ Cause.unescapedMarker.code = 3
    ∧ Cause.badEscape.code = 4 ∧ Cause.missingStop.code = 5 ∧ Cause.checksumError.code = 6 ∧ Cause.timeout.code = 7
    ∧ Cause.transportError.code = 8 ∧ Cause.payloadTooLarge.code = 9 ∧ Cause.txBusy.code = 10)
  ∧ (∀ (p : List Byte) (cause : Cause),
    RxEvent.none.kind = 0 ∧ (RxEvent.frameOk p).kind = 1 ∧ (RxEvent.drop cause).kind = 2
    ∧ TxEvent.none.kind = 0 ∧ TxEvent.txDone.kind = 1 ∧ (TxEvent.txError cause).kind = 2
    ∧ (RxEvent.frameOk p).defaultView = .data p ∧ (RxEvent.frameOk p).diagnosticView = .data p
    ∧ RxEvent.none.defaultView = .keepFeeding ∧ RxEvent.none.diagnosticView = .keepFeeding
    ∧ (RxEvent.drop .transportError).defaultView = .error .transportError
    ∧ (RxEvent.drop .transportError).diagnosticView = .error .transportError
    ∧ (RxEvent.drop .timeout).defaultView = .noDataEnds ∧ (RxEvent.drop .timeout).diagnosticView = .noDataEnds
    ∧ (cause.code ≤ 6 →
      (RxEvent.drop cause).defaultView = .noDataGoesOn ∧ (RxEvent.drop cause).diagnosticView = .error cause)
    ∧ TxEvent.none.sendResult = none ∧ TxEvent.txDone.sendResult = some (.ok ())
    ∧ (TxEvent.txError .transportError).sendResult = some (.error .transportError)
    ∧ (TxEvent.txError .payloadTooLarge).sendResult = some (.error .payloadTooLarge)
    ∧ (TxEvent.txError .txBusy).sendResult = some (.error .txBusy))
end

