-- ==== Sys2Proof/Laws/State.lean ====
section
/-! SUPPORT. One lemma per field per update of the state and of the two agents' registers, so that no proof unfolds a
record update. -/

namespace Sys2Proof.Machine

/-! ### The outputs cleared -/

@[simp] theorem State.quiet_cfg (s : State) : (s.quiet).cfg = s.cfg := rfl
@[simp] theorem State.quiet_rx (s : State) : (s.quiet).rx = s.rx := rfl
@[simp] theorem State.quiet_tx (s : State) : (s.quiet).tx = s.tx := rfl
@[simp] theorem State.quiet_rxN (s : State) : (s.quiet).rxN = s.rxN := rfl
@[simp] theorem State.quiet_rxEvent (s : State) : (s.quiet).rxEvent = RxEvent.none := rfl
@[simp] theorem State.quiet_txEvent (s : State) : (s.quiet).txEvent = TxEvent.none := rfl
@[simp] theorem State.quiet_emitted (s : State) : (s.quiet).emitted = Option.none := rfl
@[simp] theorem State.quiet_wireOut (s : State) : (s.quiet).wireOut = s.wireOut := rfl
@[simp] theorem State.quiet_result (s : State) : (s.quiet).result = OpResult.none := rfl
@[simp] theorem State.quiet_pending (s : State) : (s.quiet).pending = s.pending := rfl

/-! ### A step of RX -/

@[simp] theorem State.withRx_cfg (s : State) (r : RxRegs) (e : RxEvent) : (s.withRx r e).cfg = s.cfg := rfl
@[simp] theorem State.withRx_rx (s : State) (r : RxRegs) (e : RxEvent) : (s.withRx r e).rx = r := rfl
@[simp] theorem State.withRx_tx (s : State) (r : RxRegs) (e : RxEvent) : (s.withRx r e).tx = s.tx := rfl
@[simp] theorem State.withRx_rxN (s : State) (r : RxRegs) (e : RxEvent) : (s.withRx r e).rxN = s.rxN := rfl
@[simp] theorem State.withRx_rxEvent (s : State) (r : RxRegs) (e : RxEvent) : (s.withRx r e).rxEvent = e := rfl
@[simp] theorem State.withRx_txEvent (s : State) (r : RxRegs) (e : RxEvent) : (s.withRx r e).txEvent = TxEvent.none := rfl
@[simp] theorem State.withRx_emitted (s : State) (r : RxRegs) (e : RxEvent) : (s.withRx r e).emitted = Option.none := rfl
@[simp] theorem State.withRx_wireOut (s : State) (r : RxRegs) (e : RxEvent) : (s.withRx r e).wireOut = s.wireOut := rfl
@[simp] theorem State.withRx_result (s : State) (r : RxRegs) (e : RxEvent) : (s.withRx r e).result = OpResult.none := rfl
@[simp] theorem State.withRx_pending (s : State) (r : RxRegs) (e : RxEvent) : (s.withRx r e).pending = s.pending := rfl

/-! ### A step of TX -/

@[simp] theorem State.withTx_cfg (s : State) (o : TxOut) : (s.withTx o).cfg = s.cfg := rfl
@[simp] theorem State.withTx_rx (s : State) (o : TxOut) : (s.withTx o).rx = s.rx := rfl
@[simp] theorem State.withTx_tx (s : State) (o : TxOut) : (s.withTx o).tx = o.regs := rfl
@[simp] theorem State.withTx_rxN (s : State) (o : TxOut) : (s.withTx o).rxN = s.rxN := rfl
@[simp] theorem State.withTx_rxEvent (s : State) (o : TxOut) : (s.withTx o).rxEvent = RxEvent.none := rfl
@[simp] theorem State.withTx_txEvent (s : State) (o : TxOut) : (s.withTx o).txEvent = o.event := rfl
@[simp] theorem State.withTx_emitted (s : State) (o : TxOut) : (s.withTx o).emitted = o.emitted := rfl
@[simp] theorem State.withTx_wireOut (s : State) (o : TxOut) : (s.withTx o).wireOut = s.wireOut ++ o.emitted.toList := rfl
@[simp] theorem State.withTx_result (s : State) (o : TxOut) : (s.withTx o).result = OpResult.none := rfl
@[simp] theorem State.withTx_pending (s : State) (o : TxOut) : (s.withTx o).pending = s.pending := rfl

/-! ### A pure operation -/

@[simp] theorem State.withResult_cfg (s : State) (v : OpResult) : (s.withResult v).cfg = s.cfg := rfl
@[simp] theorem State.withResult_rx (s : State) (v : OpResult) : (s.withResult v).rx = s.rx := rfl
@[simp] theorem State.withResult_tx (s : State) (v : OpResult) : (s.withResult v).tx = s.tx := rfl
@[simp] theorem State.withResult_rxN (s : State) (v : OpResult) : (s.withResult v).rxN = s.rxN := rfl
@[simp] theorem State.withResult_rxEvent (s : State) (v : OpResult) : (s.withResult v).rxEvent = RxEvent.none := rfl
@[simp] theorem State.withResult_txEvent (s : State) (v : OpResult) : (s.withResult v).txEvent = TxEvent.none := rfl
@[simp] theorem State.withResult_emitted (s : State) (v : OpResult) : (s.withResult v).emitted = Option.none := rfl
@[simp] theorem State.withResult_wireOut (s : State) (v : OpResult) : (s.withResult v).wireOut = s.wireOut := rfl
@[simp] theorem State.withResult_result (s : State) (v : OpResult) : (s.withResult v).result = v := rfl
@[simp] theorem State.withResult_pending (s : State) (v : OpResult) : (s.withResult v).pending = s.pending := rfl

/-! ### A pseudo-token -/

@[simp] theorem State.withExpansion_cfg (s : State) (is : List Input) : (s.withExpansion is).cfg = s.cfg := rfl
@[simp] theorem State.withExpansion_rx (s : State) (is : List Input) : (s.withExpansion is).rx = s.rx := rfl
@[simp] theorem State.withExpansion_tx (s : State) (is : List Input) : (s.withExpansion is).tx = s.tx := rfl
@[simp] theorem State.withExpansion_rxN (s : State) (is : List Input) : (s.withExpansion is).rxN = s.rxN := rfl
@[simp] theorem State.withExpansion_rxEvent (s : State) (is : List Input) : (s.withExpansion is).rxEvent = RxEvent.none := rfl
@[simp] theorem State.withExpansion_txEvent (s : State) (is : List Input) : (s.withExpansion is).txEvent = TxEvent.none := rfl
@[simp] theorem State.withExpansion_emitted (s : State) (is : List Input) : (s.withExpansion is).emitted = Option.none := rfl
@[simp] theorem State.withExpansion_wireOut (s : State) (is : List Input) : (s.withExpansion is).wireOut = s.wireOut := rfl
@[simp] theorem State.withExpansion_result (s : State) (is : List Input) : (s.withExpansion is).result = OpResult.none := rfl
@[simp] theorem State.withExpansion_pending (s : State) (is : List Input) : (s.withExpansion is).pending = is ++ s.pending := rfl

/-! ### An input taken -/

@[simp] theorem State.taken_cfg (s : State) (rest : List Input) : (s.taken rest).cfg = s.cfg := rfl
@[simp] theorem State.taken_rx (s : State) (rest : List Input) : (s.taken rest).rx = s.rx := rfl
@[simp] theorem State.taken_tx (s : State) (rest : List Input) : (s.taken rest).tx = s.tx := rfl
@[simp] theorem State.taken_rxN (s : State) (rest : List Input) : (s.taken rest).rxN = s.rxN := rfl
@[simp] theorem State.taken_rxEvent (s : State) (rest : List Input) : (s.taken rest).rxEvent = s.rxEvent := rfl
@[simp] theorem State.taken_txEvent (s : State) (rest : List Input) : (s.taken rest).txEvent = s.txEvent := rfl
@[simp] theorem State.taken_emitted (s : State) (rest : List Input) : (s.taken rest).emitted = s.emitted := rfl
@[simp] theorem State.taken_wireOut (s : State) (rest : List Input) : (s.taken rest).wireOut = s.wireOut := rfl
@[simp] theorem State.taken_result (s : State) (rest : List Input) : (s.taken rest).result = s.result := rfl
@[simp] theorem State.taken_pending (s : State) (rest : List Input) : (s.taken rest).pending = rest := rfl

/-! ### `clear` -/

@[simp] theorem RxRegs.clear_state (r : RxRegs) (c : Config) : (r.clear c).state = RxState.waitStart := rfl
@[simp] theorem RxRegs.clear_len (r : RxRegs) (c : Config) : (r.clear c).len = 0 := rfl
@[simp] theorem RxRegs.clear_idx (r : RxRegs) (c : Config) : (r.clear c).idx = 0 := rfl
@[simp] theorem RxRegs.clear_ck (r : RxRegs) (c : Config) : (r.clear c).ck = c.ckInit := rfl
@[simp] theorem RxRegs.clear_ckrx (r : RxRegs) (c : Config) : (r.clear c).ckrx = 0 := rfl
@[simp] theorem RxRegs.clear_buf (r : RxRegs) (c : Config) : (r.clear c).buf = r.buf := rfl
@[simp] theorem RxRegs.clear_epoch (r : RxRegs) (c : Config) : (r.clear c).epoch = r.epoch := rfl

/-! ### `store` -/

@[simp] theorem RxRegs.stored_state (r : RxRegs) (c : Config) (v : Byte) : (r.stored c v).state = if r.idx + 1 = r.len then RxState.readChecksum else RxState.readPayload := rfl
@[simp] theorem RxRegs.stored_len (r : RxRegs) (c : Config) (v : Byte) : (r.stored c v).len = r.len := rfl
@[simp] theorem RxRegs.stored_idx (r : RxRegs) (c : Config) (v : Byte) : (r.stored c v).idx = r.idx + 1 := rfl
@[simp] theorem RxRegs.stored_ck (r : RxRegs) (c : Config) (v : Byte) : (r.stored c v).ck = c.ckStep r.ck v := rfl
@[simp] theorem RxRegs.stored_ckrx (r : RxRegs) (c : Config) (v : Byte) : (r.stored c v).ckrx = r.ckrx := rfl
@[simp] theorem RxRegs.stored_buf (r : RxRegs) (c : Config) (v : Byte) : (r.stored c v).buf = r.buf.write r.idx.toNat v := rfl
@[simp] theorem RxRegs.stored_epoch (r : RxRegs) (c : Config) (v : Byte) : (r.stored c v).epoch = r.epoch := rfl

/-! ### The length byte accepted -/

@[simp] theorem RxRegs.acceptLength_state (r : RxRegs) (c : Config) (b : Byte) : (r.acceptLength c b).state = if b = 0 then RxState.readChecksum else RxState.readPayload := rfl
@[simp] theorem RxRegs.acceptLength_len (r : RxRegs) (c : Config) (b : Byte) : (r.acceptLength c b).len = b := rfl
@[simp] theorem RxRegs.acceptLength_idx (r : RxRegs) (c : Config) (b : Byte) : (r.acceptLength c b).idx = 0 := rfl
@[simp] theorem RxRegs.acceptLength_ck (r : RxRegs) (c : Config) (b : Byte) : (r.acceptLength c b).ck = c.ckInit := rfl
@[simp] theorem RxRegs.acceptLength_ckrx (r : RxRegs) (c : Config) (b : Byte) : (r.acceptLength c b).ckrx = r.ckrx := rfl
@[simp] theorem RxRegs.acceptLength_buf (r : RxRegs) (c : Config) (b : Byte) : (r.acceptLength c b).buf = r.buf := rfl
@[simp] theorem RxRegs.acceptLength_epoch (r : RxRegs) (c : Config) (b : Byte) : (r.acceptLength c b).epoch = r.epoch := rfl

/-! ### The checksum byte held -/

@[simp] theorem RxRegs.holdChecksum_state (r : RxRegs) (v : Byte) : (r.holdChecksum v).state = RxState.expectStop := rfl
@[simp] theorem RxRegs.holdChecksum_len (r : RxRegs) (v : Byte) : (r.holdChecksum v).len = r.len := rfl
@[simp] theorem RxRegs.holdChecksum_idx (r : RxRegs) (v : Byte) : (r.holdChecksum v).idx = r.idx := rfl
@[simp] theorem RxRegs.holdChecksum_ck (r : RxRegs) (v : Byte) : (r.holdChecksum v).ck = r.ck := rfl
@[simp] theorem RxRegs.holdChecksum_ckrx (r : RxRegs) (v : Byte) : (r.holdChecksum v).ckrx = v := rfl
@[simp] theorem RxRegs.holdChecksum_buf (r : RxRegs) (v : Byte) : (r.holdChecksum v).buf = r.buf := rfl
@[simp] theorem RxRegs.holdChecksum_epoch (r : RxRegs) (v : Byte) : (r.holdChecksum v).epoch = r.epoch := rfl

/-! ### The accumulator of RX -/

@[simp] theorem RxRegs.setCk_state (r : RxRegs) (v : Byte) : (r.setCk v).state = r.state := rfl
@[simp] theorem RxRegs.setCk_len (r : RxRegs) (v : Byte) : (r.setCk v).len = r.len := rfl
@[simp] theorem RxRegs.setCk_idx (r : RxRegs) (v : Byte) : (r.setCk v).idx = r.idx := rfl
@[simp] theorem RxRegs.setCk_ck (r : RxRegs) (v : Byte) : (r.setCk v).ck = v := rfl
@[simp] theorem RxRegs.setCk_ckrx (r : RxRegs) (v : Byte) : (r.setCk v).ckrx = r.ckrx := rfl
@[simp] theorem RxRegs.setCk_buf (r : RxRegs) (v : Byte) : (r.setCk v).buf = r.buf := rfl
@[simp] theorem RxRegs.setCk_epoch (r : RxRegs) (v : Byte) : (r.setCk v).epoch = r.epoch := rfl

/-! ### `advance` -/

@[simp] theorem TxRegs.advance_state (t : TxRegs) : (t.advance).state = if t.idx + 1 = t.len then TxState.emitCk else TxState.emitData := rfl
@[simp] theorem TxRegs.advance_len (t : TxRegs) : (t.advance).len = t.len := rfl
@[simp] theorem TxRegs.advance_idx (t : TxRegs) : (t.advance).idx = t.idx + 1 := rfl
@[simp] theorem TxRegs.advance_ck (t : TxRegs) : (t.advance).ck = t.ck := rfl
@[simp] theorem TxRegs.advance_buf (t : TxRegs) : (t.advance).buf = t.buf := rfl
@[simp] theorem TxRegs.advance_epoch (t : TxRegs) : (t.advance).epoch = t.epoch := rfl

/-! ### `TX.SEND` -/

@[simp] theorem TxRegs.load_state (t : TxRegs) (c : Config) (p : List Byte) : (t.load c p).state = TxState.emitStart := rfl
@[simp] theorem TxRegs.load_len (t : TxRegs) (c : Config) (p : List Byte) : (t.load c p).len = BitVec.ofNat 8 p.length := rfl
@[simp] theorem TxRegs.load_idx (t : TxRegs) (c : Config) (p : List Byte) : (t.load c p).idx = 0 := rfl
@[simp] theorem TxRegs.load_ck (t : TxRegs) (c : Config) (p : List Byte) : (t.load c p).ck = c.ckFold p := rfl
@[simp] theorem TxRegs.load_buf (t : TxRegs) (c : Config) (p : List Byte) : (t.load c p).buf = Memory.writeFrom t.buf 0 p := rfl
@[simp] theorem TxRegs.load_epoch (t : TxRegs) (c : Config) (p : List Byte) : (t.load c p).epoch = t.epoch := rfl

/-! ### The accumulator of TX -/

@[simp] theorem TxRegs.setCk_state (t : TxRegs) (v : Byte) : (t.setCk v).state = t.state := rfl
@[simp] theorem TxRegs.setCk_len (t : TxRegs) (v : Byte) : (t.setCk v).len = t.len := rfl
@[simp] theorem TxRegs.setCk_idx (t : TxRegs) (v : Byte) : (t.setCk v).idx = t.idx := rfl
@[simp] theorem TxRegs.setCk_ck (t : TxRegs) (v : Byte) : (t.setCk v).ck = v := rfl
@[simp] theorem TxRegs.setCk_buf (t : TxRegs) (v : Byte) : (t.setCk v).buf = t.buf := rfl
@[simp] theorem TxRegs.setCk_epoch (t : TxRegs) (v : Byte) : (t.setCk v).epoch = t.epoch := rfl

/-! ### `resync`: the registers it leaves -/

theorem RxRegs.restart_state (r : RxRegs) (c : Config) (b : Byte) :
    (r.restart c b).state = if b = c.start then RxState.readLength else RxState.waitStart := by
  unfold RxRegs.restart; split <;> rfl

@[simp] theorem RxRegs.restart_len (r : RxRegs) (c : Config) (b : Byte) : (r.restart c b).len = 0 := by
  unfold RxRegs.restart; split <;> rfl

@[simp] theorem RxRegs.restart_idx (r : RxRegs) (c : Config) (b : Byte) : (r.restart c b).idx = 0 := by
  unfold RxRegs.restart; split <;> rfl

@[simp] theorem RxRegs.restart_ck (r : RxRegs) (c : Config) (b : Byte) : (r.restart c b).ck = c.ckInit := by
  unfold RxRegs.restart; split <;> rfl

@[simp] theorem RxRegs.restart_ckrx (r : RxRegs) (c : Config) (b : Byte) : (r.restart c b).ckrx = 0 := by
  unfold RxRegs.restart; split <;> rfl

@[simp] theorem RxRegs.restart_buf (r : RxRegs) (c : Config) (b : Byte) : (r.restart c b).buf = r.buf := by
  unfold RxRegs.restart; split <;> rfl

@[simp] theorem RxRegs.restart_epoch (r : RxRegs) (c : Config) (b : Byte) : (r.restart c b).epoch = r.epoch := by
  unfold RxRegs.restart; split <;> rfl

/-! ### What the row of an input depends on -/

@[simp] theorem State.context_cfg (s : State) : s.context.cfg = s.cfg := rfl
@[simp] theorem State.context_rxN (s : State) : s.context.rxN = s.rxN := rfl
@[simp] theorem State.context_rxState (s : State) : s.context.rxState = s.rx.state := rfl
@[simp] theorem State.context_txState (s : State) : s.context.txState = s.tx.state := rfl

end Sys2Proof.Machine
end

