-- ==== Sys2Proof/Laws/Config.lean ====
section
/-! SUPPORT. Laws of the operand forms and of the checksum: what a well-formed configuration gives, reserved values and
their escaped forms, the fold as a fold. -/

namespace Sys2Proof

/-! ### Well-formed configurations (00_scope.md R11) -/

theorem Config.maxPayload_le {c : Config} (h : c.wf = true) : c.maxPayload ≤ 255 := by
  simp only [Config.wf, Bool.and_eq_true, decide_eq_true_eq] at h
  exact h.1.2

theorem Config.esc_ne_start {c : Config} (h : c.wf = true) : c.esc ≠ c.start := by
  simp only [Config.wf, Bool.and_eq_true, bne_iff_ne] at h
  exact h.1.1.1.1

theorem Config.esc_ne_stop {c : Config} (h : c.wf = true) : c.esc ≠ c.stop := by
  simp only [Config.wf, Bool.and_eq_true, bne_iff_ne] at h
  exact h.1.1.1.2

theorem Config.isReserved_iff (c : Config) (b : Byte) :
    c.isReserved b = true ↔ b = c.start ∨ b = c.stop ∨ b = c.esc := by
  simp only [Config.isReserved, Bool.or_eq_true, beq_iff_eq, or_assoc]

theorem Config.isMarker_iff (c : Config) (b : Byte) : c.isMarker b = true ↔ b = c.start ∨ b = c.stop := by
  simp only [Config.isMarker, Bool.or_eq_true, beq_iff_eq]

@[simp] theorem Config.isReserved_start (c : Config) : c.isReserved c.start = true := by simp [Config.isReserved]
@[simp] theorem Config.isReserved_stop (c : Config) : c.isReserved c.stop = true := by simp [Config.isReserved]
@[simp] theorem Config.isReserved_esc (c : Config) : c.isReserved c.esc = true := by simp [Config.isReserved]

/-- The escaped form of a reserved value is not reserved (00_scope.md R11 item 2). -/
theorem Config.isReserved_enc {c : Config} (h : c.wf = true) {v : Byte} (hv : c.isReserved v = true) :
    c.isReserved (c.enc v) = false := by
  simp only [Config.wf, Bool.and_eq_true, Bool.not_eq_true'] at h
  rcases (c.isReserved_iff v).mp hv with rfl | rfl | rfl
  · exact h.1.1.2.1.1
  · exact h.1.1.2.1.2
  · exact h.1.1.2.2

/-! ### Escaping (00_scope.md R8) -/

@[simp] theorem Config.dec_enc (c : Config) (v : Byte) : c.dec (c.enc v) = v := by
  simp [Config.dec, Config.enc]

@[simp] theorem Config.enc_dec (c : Config) (b : Byte) : c.enc (c.dec b) = b := by
  simp [Config.dec, Config.enc]

theorem Config.enc_inj {c : Config} {v w : Byte} (h : c.enc v = c.enc w) : v = w := by
  rw [← c.dec_enc v, h, c.dec_enc]

/-- A byte is the escaped form of `v` exactly when it unescapes to `v`. -/
theorem Config.eq_enc_iff (c : Config) (b v : Byte) : b = c.enc v ↔ c.dec b = v :=
  ⟨fun h => by rw [h, c.dec_enc], fun h => by rw [← h, c.enc_dec]⟩

theorem Config.stuff_of_reserved {c : Config} {v : Byte} (h : c.isReserved v = true) :
    c.stuff v = [c.esc, c.enc v] := if_pos h

theorem Config.stuff_of_not_reserved {c : Config} {v : Byte} (h : c.isReserved v = false) : c.stuff v = [v] := by
  simp [Config.stuff, h]

/-! ### `CK_STEP` by algorithm (40_checksum.md R69 to R71) -/

theorem Config.ckStep_of_xor8 {c : Config} (h : c.ckAlg = .xor8) (a v : Byte) : c.ckStep a v = ckStepXor8 a v := by
  simp only [Config.ckStep, h]

theorem Config.ckStep_of_add8 {c : Config} (h : c.ckAlg = .add8) (a v : Byte) : c.ckStep a v = ckStepAdd8 a v := by
  simp only [Config.ckStep, h]

theorem Config.ckStep_of_crc8 {c : Config} {poly init : Byte} (h : c.ckAlg = .crc8 poly init) (a v : Byte) :
    c.ckStep a v = ckStepCrc8 poly a v := by
  simp only [Config.ckStep, h]

/-! ### The fold (40_checksum.md R73) -/

theorem Config.ckFoldFrom_eq_foldl (c : Config) (a : Byte) (p : List Byte) :
    c.ckFoldFrom a p = p.foldl c.ckStep a := by
  induction p generalizing a with
  | nil => rfl
  | cons v p ih => exact ih _

theorem Config.ckFoldFrom_append (c : Config) (a : Byte) (p q : List Byte) :
    c.ckFoldFrom a (p ++ q) = c.ckFoldFrom (c.ckFoldFrom a p) q := by
  simp only [Config.ckFoldFrom_eq_foldl, List.foldl_append]

@[simp] theorem Config.ckFold_nil (c : Config) : c.ckFold [] = c.ckInit := rfl

end Sys2Proof
end

