-- ==== Sys2Proof/Laws/Memory.lean ====
section
/-! SUPPORT. Laws of the buffers: read after write, the canonical form, the bounds, and what reading a written stretch
gives. -/

namespace Sys2Proof.Machine

/-! ### The canonical form -/

theorem Memory.wf_cons (x : Host.Cell) (m : Memory) :
    Memory.wf (x :: m) = true ↔ (∀ y ∈ m, x.1 < y.1) ∧ m.wf = true := by
  induction m generalizing x with
  | nil => simp [Memory.wf]
  | cons y m ih =>
    constructor
    · intro h
      simp only [Memory.wf, Bool.and_eq_true, decide_eq_true_eq] at h
      refine ⟨?_, h.2⟩
      intro z hz
      rcases List.mem_cons.mp hz with rfl | hz
      · exact h.1
      · exact Nat.lt_trans h.1 (((ih y).mp h.2).1 z hz)
    · intro h
      simp only [Memory.wf, Bool.and_eq_true, decide_eq_true_eq]
      exact ⟨h.1 y (List.mem_cons_self ..), h.2⟩

theorem Memory.mem_write {m : Memory} {a : Nat} {v : Byte} {y : Host.Cell} (h : y ∈ m.write a v) :
    y = (a, v) ∨ y ∈ m := by
  induction m with
  | nil => simpa [Memory.write] using h
  | cons x m ih =>
    simp only [Memory.write] at h
    split at h
    · simpa using h
    · split at h
      · rcases List.mem_cons.mp h with h | h
        · exact .inl h
        · exact .inr (List.mem_cons_of_mem _ h)
      · rcases List.mem_cons.mp h with h | h
        · exact .inr (h ▸ List.mem_cons_self ..)
        · exact (ih h).imp id (List.mem_cons_of_mem _)

/-- A write keeps the canonical form. -/
theorem Memory.write_wf {m : Memory} (h : m.wf = true) (a : Nat) (v : Byte) : (m.write a v).wf = true := by
  induction m with
  | nil => rfl
  | cons x m ih =>
    have hx := (Memory.wf_cons x m).mp h
    simp only [Memory.write]
    split
    · rename_i hlt
      refine (Memory.wf_cons _ _).mpr ⟨?_, h⟩
      intro y hy
      rcases List.mem_cons.mp hy with rfl | hy
      · exact hlt
      · exact Nat.lt_trans hlt (hx.1 y hy)
    · split
      · rename_i heq
        refine (Memory.wf_cons _ _).mpr ⟨?_, hx.2⟩
        intro y hy
        exact heq ▸ hx.1 y hy
      · rename_i hn hne
        refine (Memory.wf_cons _ _).mpr ⟨?_, ih hx.2⟩
        intro y hy
        rcases Memory.mem_write hy with rfl | hy
        · show x.1 < a
          omega
        · exact hx.1 y hy

/-- Writing a stretch keeps the canonical form. -/
theorem Memory.writeFrom_wf {m : Memory} (h : m.wf = true) (a : Nat) (p : List Byte) :
    (m.writeFrom a p).wf = true := by
  induction p generalizing m a with
  | nil => exact h
  | cons v p ih => exact ih (Memory.write_wf h a v) (a + 1)

/-- A write below `MAX_PAYLOAD` keeps a buffer within its elements. -/
theorem Memory.write_fits {c : Config} {m : Memory} (h : m.fits c) {a : Nat} (ha : a < c.maxPayload) (v : Byte) :
    (m.write a v).fits c :=
  ⟨Memory.write_wf h.1 a v, fun _ hx => (Memory.mem_write hx).elim (fun e => e ▸ ha) (h.2 _)⟩

/-- Writing a stretch that ends by `MAX_PAYLOAD` keeps a buffer within its elements. -/
theorem Memory.writeFrom_fits {c : Config} {m : Memory} (h : m.fits c) {a : Nat} {p : List Byte}
    (ha : a + p.length ≤ c.maxPayload) : (m.writeFrom a p).fits c := by
  induction p generalizing m a with
  | nil => exact h
  | cons v p ih =>
    simp only [List.length_cons] at ha
    exact ih (Memory.write_fits h (by omega) v) (by omega)

theorem Memory.empty_fits (c : Config) : Memory.fits c [] := ⟨rfl, fun _ h => absurd h (List.not_mem_nil)⟩

/-! ### Read after write -/

/-- The byte written is read at its index. -/
@[simp] theorem Memory.read?_write_same (m : Memory) (a : Nat) (v : Byte) : (m.write a v).read? a = some v := by
  induction m with
  | nil => simp [Memory.write, Memory.read?]
  | cons x m ih =>
    simp only [Memory.write]
    split
    · simp [Memory.read?]
    · split
      · simp [Memory.read?]
      · rename_i hne
        simpa [Memory.read?, Ne.symm hne] using ih

/-- A write leaves every other index alone. -/
theorem Memory.read?_write_other (m : Memory) {a i : Nat} (v : Byte) (h : i ≠ a) :
    (m.write a v).read? i = m.read? i := by
  induction m with
  | nil => simp [Memory.write, Memory.read?, Ne.symm h]
  | cons x m ih =>
    simp only [Memory.write]
    split
    · simp [Memory.read?, Ne.symm h]
    · split
      · rename_i heq
        simp [Memory.read?, ← heq, Ne.symm h]
      · simp only [Memory.read?, ih]

/-- A write leaves what has been written, written. -/
theorem Memory.writtenUpTo_write {m : Memory} {n : Nat} (h : m.writtenUpTo n) (a : Nat) (v : Byte) :
    (m.write a v).writtenUpTo n := by
  intro i hi
  by_cases hia : i = a
  · subst hia; simp
  · rw [Memory.read?_write_other m v hia]; exact h i hi

/-- Writing the next element extends the written stretch. -/
theorem Memory.writtenUpTo_write_next {m : Memory} {n : Nat} (h : m.writtenUpTo n) (v : Byte) :
    (m.write n v).writtenUpTo (n + 1) := by
  intro i hi
  by_cases hin : i = n
  · subst hin; simp
  · rw [Memory.read?_write_other m v hin]; exact h i (by omega)

/-- A stretch read back from index `a` on. -/
theorem Memory.read?_writeFrom (m : Memory) (a : Nat) (p : List Byte) (i : Nat) :
    (m.writeFrom a p).read? i = if a ≤ i ∧ i < a + p.length then p[i - a]? else m.read? i := by
  induction p generalizing m a with
  | nil => simp only [Memory.writeFrom, List.length_nil]; split <;> first | omega | rfl
  | cons v p ih =>
    rw [Memory.writeFrom, ih]
    by_cases hia : i = a
    · subst hia
      simp
    · rw [Memory.read?_write_other m v hia]
      simp only [List.length_cons]
      by_cases h1 : a + 1 ≤ i ∧ i < a + 1 + p.length
      · rw [if_pos h1, if_pos (by omega)]
        obtain ⟨k, hk⟩ : ∃ k, i - a = k + 1 := ⟨i - a - 1, by omega⟩
        rw [hk, show i - (a + 1) = k by omega]
        simp
      · rw [if_neg h1, if_neg (by omega)]

/-! ### Reading the first elements of a buffer -/

@[simp] theorem RxRegs.readUpTo_zero (r : RxRegs) : r.readUpTo 0 = [] := rfl

@[simp] theorem TxRegs.readUpTo_zero (t : TxRegs) : t.readUpTo 0 = [] := rfl

theorem RxRegs.readUpTo_succ (r : RxRegs) (n : Nat) : r.readUpTo (n + 1) = r.readUpTo n ++ [r.read n] := by
  simp [RxRegs.readUpTo, List.range_succ]

theorem TxRegs.readUpTo_succ (t : TxRegs) (n : Nat) : t.readUpTo (n + 1) = t.readUpTo n ++ [t.read n] := by
  simp [TxRegs.readUpTo, List.range_succ]

/-- What a stretch reads depends on the buffer's elements and on which free values are in force. -/
theorem RxRegs.readUpTo_congr {r r' : RxRegs} {n : Nat} (h : ∀ i, i < n → r.read i = r'.read i) :
    r.readUpTo n = r'.readUpTo n := by
  unfold RxRegs.readUpTo
  exact List.map_congr_left fun i hi => h i (List.mem_range.mp hi)

/-- The element at `rx_idx` after `store(v)` is `v`. -/
theorem RxRegs.read_stored_same (c : Config) (r : RxRegs) (v : Byte) : (r.stored c v).read r.idx.toNat = v := by
  simp [RxRegs.read]

/-- `store` leaves every other element alone. -/
theorem RxRegs.read_stored_other (c : Config) (r : RxRegs) (v : Byte) {i : Nat} (h : i ≠ r.idx.toNat) :
    (r.stored c v).read i = r.read i := by
  simp [RxRegs.read, Memory.read?_write_other _ v h]

/-- No operation of RX but `store` touches an element. -/
@[simp] theorem RxRegs.read_clear (c : Config) (r : RxRegs) (i : Nat) : (r.clear c).read i = r.read i := rfl

@[simp] theorem RxRegs.read_restart (c : Config) (r : RxRegs) (b : Byte) (i : Nat) :
    (r.restart c b).read i = r.read i := by
  simp [RxRegs.read]

@[simp] theorem RxRegs.read_acceptLength (c : Config) (r : RxRegs) (b : Byte) (i : Nat) :
    (r.acceptLength c b).read i = r.read i := rfl

@[simp] theorem RxRegs.read_holdChecksum (r : RxRegs) (v : Byte) (i : Nat) : (r.holdChecksum v).read i = r.read i := rfl

/-- `store(v)` appends `v` to the bytes accumulated. -/
theorem RxRegs.readUpTo_stored (c : Config) (r : RxRegs) (v : Byte) :
    (r.stored c v).readUpTo (r.idx.toNat + 1) = r.readUpTo r.idx.toNat ++ [v] := by
  rw [RxRegs.readUpTo_succ, RxRegs.read_stored_same]
  congr 1
  exact RxRegs.readUpTo_congr fun i hi => RxRegs.read_stored_other c r v (by omega)

/-- After an accepted `TX.SEND(p)` the buffer's first elements are `p`. -/
theorem TxRegs.readUpTo_load (c : Config) (t : TxRegs) (p : List Byte) : (t.load c p).readUpTo p.length = p := by
  apply List.ext_getElem
  · simp [TxRegs.readUpTo]
  · intro i h1 h2
    simp [TxRegs.readUpTo, TxRegs.read, Memory.read?_writeFrom, h2]

end Sys2Proof.Machine
end

