-- ==== Sys2Proof/Laws/Ops.lean ====
section
/-! SUPPORT. What each shared operation can do, said once: the meanings' lemmas and the invariants cite these and unfold
no step. -/

namespace Sys2Proof.Machine

/-! ### Outcomes -/

theorem State.stepRx_next {s t : State} {x : RxResult} :
    s.stepRx x = .next t ↔ ∃ r e, x = .ok (r, e) ∧ t = s.withRx r e := by
  constructor
  · intro h
    match x, h with
    | .ok (r, e), h => exact ⟨r, e, rfl, (Host.Outcome.next.inj h).symm⟩
  · rintro ⟨r, e, rfl, rfl⟩
    rfl

theorem State.stepTx_next {s t : State} {x : TxResult} :
    s.stepTx x = .next t ↔ ∃ o, x = .ok o ∧ t = s.withTx o := by
  constructor
  · intro h
    match x, h with
    | .ok o, h => exact ⟨o, rfl, (Host.Outcome.next.inj h).symm⟩
  · rintro ⟨o, rfl, rfl⟩
    rfl

/-- A row of RX given anywhere is a step of RX: the row's own rule at its state, the state's rule elsewhere. -/
theorem State.consumeAt_cases (s : State) (q : RxState) (b : Byte) (rule : RxResult) :
    (s.rx.state = q ∧ s.consumeAt q b rule = s.stepRx rule)
    ∨ (s.rx.state ≠ q ∧ s.consumeAt q b rule = s.stepRx (rxByte s.cfg s.rxN s.rx b)) := by
  unfold State.consumeAt State.consume
  by_cases h : s.rx.state = q
  · exact .inl ⟨h, if_pos h⟩
  · exact .inr ⟨h, if_neg h⟩

theorem State.symbol_cases (s : State) (q : RxState) (b : Byte) (cond : Bool) (effect : RxResult) :
    (s.rx.state = q ∧ cond = true ∧ s.symbol q b cond effect = s.stepRx effect)
    ∨ (¬ (s.rx.state = q ∧ cond = true)
        ∧ s.symbol q b cond effect = s.stepRx (rxByte s.cfg s.rxN s.rx b)) := by
  unfold State.symbol State.consume
  by_cases h : s.rx.state = q ∧ cond = true
  · exact .inl ⟨h.1, h.2, if_pos h⟩
  · exact .inr ⟨h, if_neg h⟩

theorem State.takeAt_cases (s : State) (q : TxState) (rule : TxResult) :
    (s.tx.state = q ∧ s.takeAt q rule = s.stepTx rule)
    ∨ (s.tx.state ≠ q ∧ s.takeAt q rule = s.stepTx (txTake s.cfg s.tx)) := by
  unfold State.takeAt
  by_cases h : s.tx.state = q
  · exact .inl ⟨h, if_pos h⟩
  · exact .inr ⟨h, if_neg h⟩

/-! ### RX -/

/-- `store` answers exactly when the element exists, and then with `stored`. -/
theorem RxRegs.store_ok {c : Config} {r r' : RxRegs} {v : Byte} {e : RxEvent} :
    r.store c v = .ok (r', e) ↔ r.idx.toNat < c.maxPayload ∧ r' = r.stored c v ∧ e = .none := by
  unfold RxRegs.store
  split
  · rename_i h
    constructor
    · intro heq
      cases heq
      exact ⟨h, rfl, rfl⟩
    · rintro ⟨_, rfl, rfl⟩
      rfl
  · rename_i h
    exact ⟨(fun heq => nomatch heq), fun ⟨h', _⟩ => absurd h' h⟩

/-- The `FrameOk` output answers exactly when every element of the payload exists. -/
theorem RxRegs.done_ok {c : Config} {r r' : RxRegs} {e : RxEvent} :
    r.done c = .ok (r', e)
      ↔ r.len.toNat ≤ c.maxPayload ∧ r' = r.clear c ∧ e = .frameOk (r.readUpTo r.len.toNat) := by
  unfold RxRegs.done
  split
  · rename_i h
    constructor
    · intro heq
      cases heq
      exact ⟨h, rfl, rfl⟩
    · rintro ⟨_, rfl, rfl⟩
      rfl
  · rename_i h
    exact ⟨(fun heq => nomatch heq), fun ⟨h', _⟩ => absurd h' h⟩

/-- Everything a `Byte(b)` input can do to RX, with its conditions (42_decoder.md R111, less the two rows of inputs that
are not bytes). -/
theorem rxByte_cases {c : Config} {rxN : Byte} {r r' : RxRegs} {b : Byte} {e : RxEvent}
    (h : rxByte c rxN r b = .ok (r', e)) :
    (r.state = .waitStart ∧ b = c.start ∧ r' = { r.clear c with state := .readLength } ∧ e = .none)
    ∨ (r.state = .waitStart ∧ b ≠ c.start ∧ r' = r ∧ e = .none)
    ∨ (r.state = .readLength ∧ c.exceedsMax b = false ∧ b = rxN ∧ r' = r.acceptLength c b ∧ e = .none)
    ∨ (r.state = .readPayload ∧ b = c.esc ∧ r' = { r with state := .readEscapedByte } ∧ e = .none)
    ∨ (r.state = .readPayload ∧ c.isReserved b = false ∧ r.idx.toNat < c.maxPayload
        ∧ r' = r.stored c b ∧ e = .none)
    ∨ (r.state = .readEscapedByte ∧ c.isReserved (c.dec b) = true ∧ r.idx.toNat < c.maxPayload
        ∧ r' = r.stored c (c.dec b) ∧ e = .none)
    ∨ (r.state = .readChecksum ∧ b = c.esc ∧ r' = { r with state := .readEscapedChecksum } ∧ e = .none)
    ∨ (r.state = .readChecksum ∧ c.isReserved b = false ∧ r' = r.holdChecksum b ∧ e = .none)
    ∨ (r.state = .readEscapedChecksum ∧ c.isReserved (c.dec b) = true
        ∧ r' = r.holdChecksum (c.dec b) ∧ e = .none)
    ∨ (r.state = .expectStop ∧ b = c.stop ∧ r.ckrx ≠ r.ck ∧ r' = r.clear c ∧ e = .drop .checksumError)
    ∨ (r.state = .expectStop ∧ b = c.stop ∧ r.ckrx = r.ck ∧ r.len.toNat ≤ c.maxPayload
        ∧ r' = r.clear c ∧ e = .frameOk (r.readUpTo r.len.toNat))
    ∨ (r.state ≠ .waitStart ∧ r' = r.restart c b ∧ ∃ cause, cause.isStructural = true ∧ e = .drop cause) := by
  unfold rxByte at h
  split at h <;> rename_i hs
  · unfold rxWaitStart at h
    split at h <;> cases h <;> simp_all
  · unfold rxReadLength at h
    split at h
    · cases h; simp [hs, Cause.isStructural]
    · split at h
      · cases h; simp [hs, Cause.isStructural]
      · cases h; simp_all
  · unfold rxReadPayload at h
    split at h
    · cases h; simp_all
    · split at h
      · cases h; simp [hs, Cause.isStructural]
      · obtain ⟨h1, rfl, rfl⟩ := RxRegs.store_ok.mp h; simp_all
  · unfold rxReadEscapedByte at h
    split at h
    · obtain ⟨h1, rfl, rfl⟩ := RxRegs.store_ok.mp h; simp_all
    · cases h; simp [hs, Cause.isStructural]
  · unfold rxReadChecksum at h
    split at h
    · cases h; simp_all
    · split at h
      · cases h; simp [hs, Cause.isStructural]
      · cases h; simp_all
  · unfold rxReadEscapedChecksum at h
    split at h
    · cases h; simp_all
    · cases h; simp [hs, Cause.isStructural]
  · unfold rxExpectStop at h
    split at h
    · cases h; simp [hs, Cause.isStructural]
    · unfold rxJudge at h
      split at h
      · cases h; simp_all
      · obtain ⟨h1, rfl, rfl⟩ := RxRegs.done_ok.mp h; simp_all

/-! ### TX -/

/-- `tx_buf[tx_idx]` is answered exactly when the element exists. -/
theorem TxRegs.current_ok {c : Config} {t : TxRegs} {v : Byte} :
    t.current c = .ok v ↔ t.idx.toNat < c.maxPayload ∧ v = t.read t.idx.toNat := by
  unfold TxRegs.current
  split
  · rename_i h
    constructor
    · intro heq
      cases heq
      exact ⟨h, rfl⟩
    · rintro ⟨_, rfl⟩
      rfl
  · rename_i h
    exact ⟨(fun heq => nomatch heq), fun ⟨h', _⟩ => absurd h' h⟩

/-- Everything `Take` can do to TX, with its conditions (41_encoder.md R90). -/
theorem txTake_cases {c : Config} {t : TxRegs} {o : TxOut} (h : txTake c t = .ok o) :
    (t.state = .idle ∧ o = ⟨t, none, .none⟩)
    ∨ (t.state = .emitStart ∧ o = ⟨{ t with state := .emitLen }, some c.start, .none⟩)
    ∨ (t.state = .emitLen
        ∧ o = ⟨{ t with state := if t.len = 0 then .emitCk else .emitData }, some t.len, .none⟩)
    ∨ (t.state = .emitData ∧ t.idx.toNat < c.maxPayload ∧ c.isReserved (t.read t.idx.toNat) = true
        ∧ o = ⟨{ t with state := .emitDataEsc2 }, some c.esc, .none⟩)
    ∨ (t.state = .emitData ∧ t.idx.toNat < c.maxPayload ∧ c.isReserved (t.read t.idx.toNat) = false
        ∧ o = ⟨t.advance, some (t.read t.idx.toNat), .none⟩)
    ∨ (t.state = .emitDataEsc2 ∧ t.idx.toNat < c.maxPayload
        ∧ o = ⟨t.advance, some (c.enc (t.read t.idx.toNat)), .none⟩)
    ∨ (t.state = .emitCk ∧ c.isReserved t.ck = true ∧ o = ⟨{ t with state := .emitCkEsc2 }, some c.esc, .none⟩)
    ∨ (t.state = .emitCk ∧ c.isReserved t.ck = false ∧ o = ⟨{ t with state := .emitStop }, some t.ck, .none⟩)
    ∨ (t.state = .emitCkEsc2 ∧ o = ⟨{ t with state := .emitStop }, some (c.enc t.ck), .none⟩)
    ∨ (t.state = .emitStop ∧ o = ⟨{ t with state := .idle }, some c.stop, .txDone⟩) := by
  unfold txTake at h
  split at h <;> rename_i hs
  · cases h; simp [hs]
  · cases h; simp [hs]
  · cases h; simp [hs]
  · unfold txEmitData at h
    split at h
    · rename_i v hv
      obtain ⟨h1, rfl⟩ := TxRegs.current_ok.mp hv
      unfold txEmitDataByte at h
      split at h <;> cases h <;> simp_all
    · cases h
  · unfold txEmitDataEsc2 at h
    split at h
    · rename_i v hv
      obtain ⟨h1, rfl⟩ := TxRegs.current_ok.mp hv
      cases h
      simp [hs, h1, Config.enc]
    · cases h
  · unfold txEmitCk at h
    split at h <;> cases h <;> simp_all
  · cases h; simp [hs, Config.enc]
  · cases h; simp [hs]

/-! ### The step -/

/-- Everything a step that answers a next state can be. -/
theorem step_next {s t : State} (h : step s = .next t) :
    s.cfg.wf = true
    ∧ ((s.pending = [] ∧ t = s.quiet)
      ∨ ∃ w rest i, s.pending = w :: rest ∧ w.row s.context = .ok i ∧ exec i (s.taken rest) = .next t) := by
  unfold step at h
  split at h
  · rename_i hc
    refine ⟨hc, ?_⟩
    unfold State.fetch at h
    cases hp : s.pending with
    | nil =>
      simp only [hp] at h
      cases h
      exact .inl ⟨rfl, rfl⟩
    | cons w rest =>
      simp only [hp] at h
      cases hw : w.row s.context with
      | ok i =>
        simp only [hw] at h
        exact .inr ⟨w, rest, i, rfl, hw, h⟩
      | error e =>
        simp only [hw] at h
        cases h
  · cases h

end Sys2Proof.Machine
end

