-- ==== Sys2Proof/Laws/Rows.lean ====
section
/-! SUPPORT. What the rows of the encoded formats do, said once for all states: a row of the wire is the byte it encodes
to, given to RX; a row of RXIN or TXIN is the input of its kind. The provers cite these and unfold no meaning. -/

namespace Sys2Proof.Machine

/-- An input of RX, as whichever row, is `rx_step` of it. -/
theorem exec_rxRow (q : RxState) (u : RxInput) (s : State) :
    exec (rxRow q u) s = s.stepRx (rxStep s.cfg s.rxN s.rx u) := by
  cases u with
  | byte b =>
    cases q <;>
      simp only [rxRow, exec, execRxByteWaitStart, execRxByteReadLength, execRxByteReadPayload,
        execRxByteReadEscapedByte, execRxByteReadChecksum, execRxByteReadEscapedChecksum, execRxByteExpectStop,
        State.consumeAt, State.consume, rxStep] <;>
      split <;> first | rfl | simp only [rxByte, *]
  | timeout => rfl
  | ioError => rfl

/-- An input of TX, as whichever row, is `tx_step` of it. -/
theorem exec_txRow (q : TxState) (w : TxInput) (s : State) :
    exec (txRow q w) s = s.stepTx (txStep s.cfg s.tx w) := by
  cases w with
  | take =>
    cases q <;>
      simp only [txRow, exec, execTxTakeIdle, execTxTakeEmitStart, execTxTakeEmitLen, execTxTakeEmitData,
        execTxTakeEmitDataEsc2, execTxTakeEmitCk, execTxTakeEmitCkEsc2, execTxTakeEmitStop, State.takeAt, txStep] <;>
      split <;> first | rfl | simp only [txTake, *]
  | send p => rfl
  | writeError => rfl

/-- A row given in its state and under its condition is its byte, when its effect is the one RX's rule has there. -/
theorem State.symbol_eq_consume {s : State} {q : RxState} {b : Byte} {cond : Bool} {effect : RxResult}
    (h : s.rx.state = q → cond = true → effect = rxByte s.cfg s.rxN s.rx b) :
    s.symbol q b cond effect = s.consume b := by
  unfold State.symbol
  split
  · rename_i hc
    rw [h hc.1 hc.2]
    rfl
  · rfl

/-- A row of the wire is the byte it encodes to, in every state. -/
theorem exec_wire_eq_consume {s : State} {i : Instr} {b : Byte} (h : encode s.cfg i = some (.wire b)) :
    exec i s = s.consume b := by
  cases i <;> simp only [encode, Option.some.injEq, Code.wire.injEq, reduceCtorEq] at h <;> subst h <;>
    simp only [exec, execSof, execFill, execIllLenMax, execIllLenSize, execLen, execEsc, execIllMarkData, execData,
      execEscdStart, execEscdStop, execEscdEsc, execIllEscData, execEscCk, execIllMarkCk, execCks, execEsckStart,
      execEsckStop, execEsckEsc, execIllEscCk, execEof, execIllStop] <;>
    refine State.symbol_eq_consume fun hq hc => ?_ <;>
    simp only [rxByte, hq, rxWaitStart, rxReadLength, rxReadPayload, rxReadEscapedByte, rxReadChecksum,
      rxReadEscapedChecksum, rxExpectStop, Config.dec_enc, Config.isReserved_start, Config.isReserved_stop,
      Config.isReserved_esc, if_true] <;>
    simp_all [Config.isMarker, Config.isReserved]
  · intro h
    rw [← hc.2, hc.1] at h
    cases h

end Sys2Proof.Machine
end

