-- ==== Sys2Proof/Laws/Claims.lean ====
section
/-! SUPPORT. Between the words of the statements and the model's own: the vocabulary of the obligations is what the
shared operations compute, and every step of RX or of TX keeps its frame. -/

open Sys2Proof Sys2Proof.Machine Sys2Proof.Claims

namespace Sys2Proof.Machine

/-! ### Frames -/

theorem State.withRx_frame (s : State) (r : RxRegs) (e : RxEvent) : RxFrame s (s.withRx r e) :=
  ⟨rfl, rfl, rfl, rfl, rfl, rfl, rfl, rfl⟩

theorem State.withTx_frame (s : State) (o : TxOut) : TxFrame s (s.withTx o) :=
  ⟨rfl, rfl, rfl, rfl, rfl, rfl, rfl⟩

theorem State.withRx_eq_afterRx (s : State) (r : RxRegs) (e : RxEvent) : s.withRx r e = afterRx s r e := rfl

theorem State.withTx_eq_afterTx (s : State) (o : TxOut) : s.withTx o = afterTx s o := rfl

theorem State.withResult_frame (s : State) (v : OpResult) : PureFrame s (s.withResult v) :=
  ⟨rfl, rfl, rfl, rfl, rfl, rfl, rfl, rfl, rfl⟩

/-! ### Registers -/

theorem RxRegs.clear_eq (c : Config) (r : RxRegs) : r.clear c = clearedRegs c r := rfl

theorem RxRegs.restart_eq (c : Config) (r : RxRegs) (b : Byte) : r.restart c b = restartedRegs c r b := by
  unfold RxRegs.restart restartedRegs RxRegs.clear
  split <;> rfl

theorem RxRegs.storedAs (c : Config) (r : RxRegs) (v : Byte) : StoredAs c r (r.stored c v) v := by
  refine ⟨rfl, rfl, rfl, rfl, rfl, rfl, fun i => ?_⟩
  split
  · rename_i h
    subst h
    exact RxRegs.read_stored_same ..
  · rename_i h
    exact RxRegs.read_stored_other _ _ _ h

theorem isReserved_iff_reserved (c : Config) (v : Byte) : c.isReserved v = true ↔ Reserved c v :=
  c.isReserved_iff v

/-! ### Frames on the wire -/

theorem stuff_eq_stuffed (c : Config) (v : Byte) : c.stuff v = stuffed c v := by
  simp only [Config.stuff, stuffed, c.isReserved_iff, Config.enc]

theorem stuffAll_eq_flatMap (c : Config) (p : List Byte) : c.stuffAll p = p.flatMap (stuffed c) := by
  induction p with
  | nil => rfl
  | cons v p ih => rw [Config.stuffAll, ih, stuff_eq_stuffed, List.flatMap_cons]

theorem ckFold_eq_foldOf (c : Config) (p : List Byte) : c.ckFold p = foldOf c p := c.ckFoldFrom_eq_foldl _ p

theorem frameBytes_eq_frameOf (c : Config) (p : List Byte) : frameBytes c p = frameOf c p := by
  simp only [frameBytes, frameOf, stuffAll_eq_flatMap, stuff_eq_stuffed, ckFold_eq_foldOf, List.cons_append,
    List.nil_append, List.append_assoc]

end Sys2Proof.Machine
end

