-- ==== Sys2Proof/Laws/PerInstr.lean ====
section
/-! SUPPORT. One lemma per constructor of `Instr`: its word is of the format the table gives its row. -/

namespace Sys2Proof.Laws.CodeFormat

/-- The format a word is of. -/
def formatOf : Option Code → Option Format
  | some (.wire _) => some .wire
  | some (.rxin _) => some .rxin
  | some (.txin _ _) => some .txin
  | some (.other _ _) => none
  | none => none

/-- The formats whose rows have a word (30_encoding.md R58). -/
def encoded : Format → Option Format
  | .wire => some .wire
  | .rxin => some .rxin
  | .txin => some .txin
  | .host => none
  | .internal => none
  | .pseudo => none

/-- Under every configuration the encoder gives a row a word of the row's own format, and none to the rows of the
formats without encoding. -/
def Statement (i : Instr) : Prop := ∀ c : Config, formatOf (encode c i) = encoded i.format

theorem sof : Statement .sof := fun _ => rfl
theorem fill (b : Byte) : Statement (.fill b) := fun _ => rfl
theorem illLenMax (b : Byte) : Statement (.illLenMax b) := fun _ => rfl
theorem illLenSize (b : Byte) : Statement (.illLenSize b) := fun _ => rfl
theorem len (b : Byte) : Statement (.len b) := fun _ => rfl
theorem esc : Statement .esc := fun _ => rfl
theorem illMarkData (b : Byte) : Statement (.illMarkData b) := fun _ => rfl
theorem data (b : Byte) : Statement (.data b) := fun _ => rfl
theorem escdStart : Statement .escdStart := fun _ => rfl
theorem escdStop : Statement .escdStop := fun _ => rfl
theorem escdEsc : Statement .escdEsc := fun _ => rfl
theorem illEscData (b : Byte) : Statement (.illEscData b) := fun _ => rfl
theorem escCk : Statement .escCk := fun _ => rfl
theorem illMarkCk (b : Byte) : Statement (.illMarkCk b) := fun _ => rfl
theorem cks (b : Byte) : Statement (.cks b) := fun _ => rfl
theorem esckStart : Statement .esckStart := fun _ => rfl
theorem esckStop : Statement .esckStop := fun _ => rfl
theorem esckEsc : Statement .esckEsc := fun _ => rfl
theorem illEscCk (b : Byte) : Statement (.illEscCk b) := fun _ => rfl
theorem eof : Statement .eof := fun _ => rfl
theorem illStop (b : Byte) : Statement (.illStop b) := fun _ => rfl
theorem rxByteWaitStart (b : Byte) : Statement (.rxByteWaitStart b) := fun _ => rfl
theorem rxByteReadLength (b : Byte) : Statement (.rxByteReadLength b) := fun _ => rfl
theorem rxByteReadPayload (b : Byte) : Statement (.rxByteReadPayload b) := fun _ => rfl
theorem rxByteReadEscapedByte (b : Byte) : Statement (.rxByteReadEscapedByte b) := fun _ => rfl
theorem rxByteReadChecksum (b : Byte) : Statement (.rxByteReadChecksum b) := fun _ => rfl
theorem rxByteReadEscapedChecksum (b : Byte) : Statement (.rxByteReadEscapedChecksum b) := fun _ => rfl
theorem rxByteExpectStop (b : Byte) : Statement (.rxByteExpectStop b) := fun _ => rfl
theorem rxTimeout : Statement .rxTimeout := fun _ => rfl
theorem rxIoerr : Statement .rxIoerr := fun _ => rfl
theorem rxReserved3 (low : Byte) : Statement (.rxReserved3 low) := fun _ => rfl
theorem txTakeIdle : Statement .txTakeIdle := fun _ => rfl
theorem txTakeEmitStart : Statement .txTakeEmitStart := fun _ => rfl
theorem txTakeEmitLen : Statement .txTakeEmitLen := fun _ => rfl
theorem txTakeEmitData : Statement .txTakeEmitData := fun _ => rfl
theorem txTakeEmitDataEsc2 : Statement .txTakeEmitDataEsc2 := fun _ => rfl
theorem txTakeEmitCk : Statement .txTakeEmitCk := fun _ => rfl
theorem txTakeEmitCkEsc2 : Statement .txTakeEmitCkEsc2 := fun _ => rfl
theorem txTakeEmitStop : Statement .txTakeEmitStop := fun _ => rfl
theorem txSend (p : List Byte) : Statement (.txSend p) := fun _ => rfl
theorem txWerr : Statement .txWerr := fun _ => rfl
theorem txReserved3 : Statement .txReserved3 := fun _ => rfl
theorem cfgSetn (n : Byte) : Statement (.cfgSetn n) := fun _ => rfl
theorem reset : Statement .reset := fun _ => rfl
theorem encodeFrame (p : List Byte) : Statement (.encodeFrame p) := fun _ => rfl
theorem ckInit (a : Accumulator) : Statement (.ckInit a) := fun _ => rfl
theorem ckUpdateXor8 (a : Accumulator) (v : Byte) : Statement (.ckUpdateXor8 a v) := fun _ => rfl
theorem ckUpdateAdd8 (a : Accumulator) (v : Byte) : Statement (.ckUpdateAdd8 a v) := fun _ => rfl
theorem ckUpdateCrc8 (a : Accumulator) (poly : Byte) (v : Byte) : Statement (.ckUpdateCrc8 a poly v) := fun _ => rfl
theorem crcBit (poly : Byte) (a : Byte) : Statement (.crcBit poly a) := fun _ => rfl
theorem ckFold (p : List Byte) : Statement (.ckFold p) := fun _ => rfl
theorem clear : Statement .clear := fun _ => rfl
theorem resync (b : Byte) (cause : Cause) : Statement (.resync b cause) := fun _ => rfl
theorem store (v : Byte) : Statement (.store v) := fun _ => rfl
theorem done : Statement .done := fun _ => rfl
theorem advance : Statement .advance := fun _ => rfl
theorem frame (p : List Byte) : Statement (.frame p) := fun _ => rfl
theorem takeN (n : Nat) : Statement (.takeN n) := fun _ => rfl
theorem sendAll (p : List Byte) : Statement (.sendAll p) := fun _ => rfl

end Sys2Proof.Laws.CodeFormat
end

