-- ==== Sys2Proof/Tests/Slice0.lean ====
section
/-! SUPPORT. The model's own tests. Every expected value is taken from 95_test_vectors.md, from the tables of
30_encoding.md R58 and R64, or worked by hand from the rule named; none is the model's own answer. Then a witness for
the hypotheses of every statement. -/

open Sys2Proof Sys2Proof.Machine Sys2Proof.Claims

namespace Sys2Proof.Tests

/-- A configuration at its reset state, with `RX_N` set. -/
def start (c : Config) (n : Byte) : State :=
  { State.reset with cfg := c, rx := RxRegs.reset c 0, tx := TxRegs.reset c 0, rxN := n }

/-- RX in a state, its four byte registers in the order of 95_test_vectors.md (`len idx ck ckrx`). -/
def rxAt (c : Config) (n : Byte) (q : RxState) (len idx ck ckrx : Byte) (buf : Memory) : State :=
  { start c n with rx := { state := q, len := len, idx := idx, ck := ck, ckrx := ckrx, buf := buf, epoch := 0 } }

/-- TX in a state. -/
def txAt (c : Config) (q : TxState) (len idx ck : Byte) (buf : Memory) : State :=
  { start c 0 with tx := { state := q, len := len, idx := idx, ck := ck, buf := buf, epoch := 0 } }

/-- What the tables of 95_test_vectors.md show of a step of RX. -/
def rxSeen : Result → Option (RxState × List Byte × RxEvent)
  | .next t => some (t.rx.state, [t.rx.len, t.rx.idx, t.rx.ck, t.rx.ckrx], t.rxEvent)
  | .fault _ => none
  | .refused _ => none

/-- What the tables of 95_test_vectors.md show of a step of TX. -/
def txSeen : Result → Option (TxState × List Byte × Option Byte × TxEvent)
  | .next t => some (t.tx.state, [t.tx.len, t.tx.idx, t.tx.ck], t.emitted, t.txEvent)
  | .fault _ => none
  | .refused _ => none

/-- The result of a pure operation. -/
def resultSeen : Result → OpResult
  | .next t => t.result
  | .fault _ => .none
  | .refused _ => .none

/-- The two accumulators after a step. -/
def accSeen : Result → List Byte
  | .next t => [t.rx.ck, t.tx.ck]
  | .fault _ => []
  | .refused _ => []

/-- The inputs to come after a step. -/
def pendingSeen : Result → List Input
  | .next t => t.pending
  | .fault _ => []
  | .refused _ => []

/-- A byte of RX's buffer after a step. -/
def rxBufSeen : Result → List Host.Cell
  | .next t => t.rx.buf
  | .fault _ => []
  | .refused _ => []

/-- Why a step stopped, if it did. -/
def stopSeen : Result → Option (Fault ⊕ Refusal)
  | .next _ => none
  | .fault f => some (.inl f)
  | .refused r => some (.inr r)

/-- The state and the events of a run of RX. -/
def runSeen : Except Fault (RxRegs × List RxEvent) → Option (RxState × List RxEvent)
  | .ok (r, es) => some (r.state, es)
  | .error _ => none

/-- A profile with `STOP` and `START` apart and a small buffer, for the boundary cases. -/
def small : Config := { Config.P1 with maxPayload := 2 }

/-! ## Well-formedness: each check refuses an ill-formed term -/

theorem test_wf_kind_rx : Instr.wellFormed Config.P0 3 (.rxReserved3 0) = false := by decide
theorem test_wf_kind_tx : Instr.wellFormed Config.P0 3 .txReserved3 = false := by decide
theorem test_wf_value_data : Instr.wellFormed Config.P0 3 (.data 0x7E) = false := by decide
theorem test_wf_value_len : Instr.wellFormed Config.P0 3 (.len 4) = false := by decide
theorem test_wf_value_escd_stop :
    Instr.wellFormed Config.P0 3 .escdStop = false ∧ Instr.wellFormed Config.P1 3 .escdStop = true := by decide
theorem test_wf_cause :
    Instr.wellFormed Config.P0 3 (.resync 0 .timeout) = false
    ∧ Instr.wellFormed Config.P0 3 (.resync 0 .badEscape) = true := by decide
theorem test_wf_poly :
    Instr.wellFormed Config.P0 3 (.crcBit 0x06 0) = false ∧ Instr.wellFormed Config.P0 3 (.crcBit 0x07 0) = true := by
  decide

/-- 00_scope.md R11, one configuration for each item it breaks; the profiles are well formed. -/
theorem test_wf_config :
    Config.P0.wf = true ∧ Config.P1.wf = true ∧ Config.P2.wf = true
    ∧ Config.wf { Config.P0 with esc := 0x7E } = false
    ∧ Config.wf { Config.P0 with escXor := 0x03 } = false
    ∧ Config.wf { Config.P0 with maxPayload := 256 } = false
    ∧ Config.wf { Config.P0 with ckAlg := .crc8 0x06 0 } = false := by decide

/-! ## Decoding: words written out from 30_encoding.md R58 (profiles P0 and P1, `RX_N` 3) and R64 -/

/-- A context. -/
def ctx (c : Config) (q : RxState) (u : TxState) : Context := { cfg := c, rxN := 3, rxState := q, txState := u }

theorem test_decode_wire_waitStart :
    decode (ctx Config.P0 .waitStart .idle) (.wire 0b01111110) = .ok .sof
    ∧ decode (ctx Config.P0 .waitStart .idle) (.wire 0b01010101) = .ok (.fill 0x55) := by decide

theorem test_decode_wire_readLength :
    decode (ctx Config.P0 .readLength .idle) (.wire 0b11111111) = .ok (.illLenMax 0xFF)
    ∧ decode (ctx Config.P0 .readLength .idle) (.wire 0b11111110) = .ok (.illLenSize 0xFE)
    ∧ decode (ctx Config.P0 .readLength .idle) (.wire 0b00000011) = .ok (.len 3) := by decide

theorem test_decode_wire_readPayload :
    decode (ctx Config.P1 .readPayload .idle) (.wire 0b01111101) = .ok .esc
    ∧ decode (ctx Config.P1 .readPayload .idle) (.wire 0b10000001) = .ok (.illMarkData 0x81)
    ∧ decode (ctx Config.P1 .readPayload .idle) (.wire 0b00101010) = .ok (.data 0x2A) := by decide

theorem test_decode_wire_readEscapedByte :
    decode (ctx Config.P1 .readEscapedByte .idle) (.wire 0b01011110) = .ok .escdStart
    ∧ decode (ctx Config.P1 .readEscapedByte .idle) (.wire 0b10100001) = .ok .escdStop
    ∧ decode (ctx Config.P1 .readEscapedByte .idle) (.wire 0b01011101) = .ok .escdEsc
    ∧ decode (ctx Config.P1 .readEscapedByte .idle) (.wire 0b00100001) = .ok (.illEscData 0x21)
    ∧ decode (ctx Config.P0 .readEscapedByte .idle) (.wire 0b10100001) = .ok (.illEscData 0xA1) := by decide

theorem test_decode_wire_readChecksum :
    decode (ctx Config.P1 .readChecksum .idle) (.wire 0b01111101) = .ok .escCk
    ∧ decode (ctx Config.P1 .readChecksum .idle) (.wire 0b01111110) = .ok (.illMarkCk 0x7E)
    ∧ decode (ctx Config.P1 .readChecksum .idle) (.wire 0b00101011) = .ok (.cks 0x2B) := by decide

theorem test_decode_wire_readEscapedChecksum :
    decode (ctx Config.P1 .readEscapedChecksum .idle) (.wire 0b01011110) = .ok .esckStart
    ∧ decode (ctx Config.P1 .readEscapedChecksum .idle) (.wire 0b10100001) = .ok .esckStop
    ∧ decode (ctx Config.P1 .readEscapedChecksum .idle) (.wire 0b01011101) = .ok .esckEsc
    ∧ decode (ctx Config.P1 .readEscapedChecksum .idle) (.wire 0b00000000) = .ok (.illEscCk 0x00) := by decide

theorem test_decode_wire_expectStop :
    decode (ctx Config.P1 .expectStop .idle) (.wire 0b10000001) = .ok .eof
    ∧ decode (ctx Config.P1 .expectStop .idle) (.wire 0b01111110) = .ok (.illStop 0x7E) := by decide

theorem test_decode_rxin_byte :
    decode (ctx Config.P0 .waitStart .idle) (.rxin 0b0001111110) = .ok (.rxByteWaitStart 0x7E)
    ∧ decode (ctx Config.P0 .readLength .idle) (.rxin 0b0000000011) = .ok (.rxByteReadLength 0x03)
    ∧ decode (ctx Config.P0 .readPayload .idle) (.rxin 0b0000101010) = .ok (.rxByteReadPayload 0x2A)
    ∧ decode (ctx Config.P0 .readEscapedByte .idle) (.rxin 0b0001011110) = .ok (.rxByteReadEscapedByte 0x5E)
    ∧ decode (ctx Config.P0 .readChecksum .idle) (.rxin 0b0000101011) = .ok (.rxByteReadChecksum 0x2B)
    ∧ decode (ctx Config.P0 .readEscapedChecksum .idle) (.rxin 0b0001011101) = .ok (.rxByteReadEscapedChecksum 0x5D)
    ∧ decode (ctx Config.P0 .expectStop .idle) (.rxin 0b0010000001) = .ok (.rxByteExpectStop 0x81) := by decide

theorem test_decode_rxin_other :
    decode (ctx Config.P0 .readPayload .idle) (.rxin 0b0100000000) = .ok .rxTimeout
    ∧ decode (ctx Config.P0 .readPayload .idle) (.rxin 0b1000000000) = .ok .rxIoerr
    ∧ decode (ctx Config.P0 .readPayload .idle) (.rxin 0b1100000101) = .ok (.rxReserved3 0x05) := by decide

theorem test_decode_txin_take :
    decode (ctx Config.P0 .waitStart .idle) (.txin 0b00 []) = .ok .txTakeIdle
    ∧ decode (ctx Config.P0 .waitStart .emitStart) (.txin 0b00 []) = .ok .txTakeEmitStart
    ∧ decode (ctx Config.P0 .waitStart .emitLen) (.txin 0b00 []) = .ok .txTakeEmitLen
    ∧ decode (ctx Config.P0 .waitStart .emitData) (.txin 0b00 []) = .ok .txTakeEmitData
    ∧ decode (ctx Config.P0 .waitStart .emitDataEsc2) (.txin 0b00 []) = .ok .txTakeEmitDataEsc2
    ∧ decode (ctx Config.P0 .waitStart .emitCk) (.txin 0b00 []) = .ok .txTakeEmitCk
    ∧ decode (ctx Config.P0 .waitStart .emitCkEsc2) (.txin 0b00 []) = .ok .txTakeEmitCkEsc2
    ∧ decode (ctx Config.P0 .waitStart .emitStop) (.txin 0b00 []) = .ok .txTakeEmitStop := by decide

theorem test_decode_txin_other :
    decode (ctx Config.P0 .waitStart .idle) (.txin 0b01 [0x09]) = .ok (.txSend [0x09])
    ∧ decode (ctx Config.P0 .waitStart .idle) (.txin 0b10 []) = .ok .txWerr
    ∧ decode (ctx Config.P0 .waitStart .idle) (.txin 0b11 []) = .ok .txReserved3 := by decide

/-- Words that are no row are refused by name. -/
theorem test_decode_refuses :
    decode (ctx Config.P0 .waitStart .idle) (.rxin 0b0100000001) = .error .byteFieldNotZero
    ∧ decode (ctx Config.P0 .waitStart .idle) (.txin 0b00 [0x09]) = .error .strayPayload
    ∧ decode (ctx Config.P0 .waitStart .idle) (.other 12 5) = .error .noSuchFormat := by decide

/-- Table words (spec/opcode_table.json): `SOF`, `ESCD.ESC`, `RX.IOERR`, `TX.WERR`, and a size no row has. -/
theorem test_decode_table_words :
    decodeTableWord 8 0x7E = some .sof ∧ decodeTableWord 8 0x5D = some .escdEsc
    ∧ decodeTableWord 16 0x200 = some .rxIoerr ∧ decodeTableWord 8 0x2 = some .txWerr
    ∧ decodeTableWord 24 0 = none := by decide

/-- A table word placed before the machine is the next instruction it runs. -/
theorem test_fetch_word :
    rxSeen (step (State.reset.withFetchWord 8 0x7E)) = some (.readLength, [0, 0, 0, 0], .none)
    ∧ rxSeen (step (State.reset.withFetchWord 8 0x7D)) = some (.readEscapedByte, [0, 0, 0, 0], .none)
    ∧ rxSeen (step (State.reset.withFetchWord 16 0x200)) = some (.waitStart, [0, 0, 0, 0], .drop .transportError) := by
  decide

/-! ## The WIRE rows (30_encoding.md R58, R60; vectors V-RX of 95_test_vectors.md) -/

/-- V-RX, `7E` in `WaitStart`. -/
theorem test_sof :
    rxSeen (exec .sof (rxAt Config.P0 3 .waitStart 0 0 0 0 []))
      = some (.readLength, [0, 0, 0, 0], .none) := by decide

/-- V-RX, `55` in `WaitStart`. -/
theorem test_fill :
    rxSeen (exec (.fill 0x55) (rxAt Config.P0 3 .waitStart 0 0 0 0 []))
      = some (.waitStart, [0, 0, 0, 0], .none) := by decide

/-- V-RX, `FF` in `ReadLength`, `RX_N` 255: the maximum is tested first. -/
theorem test_illLenMax :
    rxSeen (exec (.illLenMax 0xFF) (rxAt Config.P0 255 .readLength 0 0 0 0 []))
      = some (.waitStart, [0, 0, 0, 0], .drop .lengthExceedsMax) := by decide

/-- V-RX, `7E` in `ReadLength`: `resync` sees `START`. -/
theorem test_illLenSize :
    rxSeen (exec (.illLenSize 0x7E) (rxAt Config.P0 3 .readLength 0 0 0 0 []))
      = some (.readLength, [0, 0, 0, 0], .drop .sizeMismatch) := by decide

/-- V-RX, `7E` in `ReadLength`, `RX_N` 126: the length is raw. -/
theorem test_len :
    rxSeen (exec (.len 0x7E) (rxAt Config.P0 126 .readLength 0 0 0 0 []))
      = some (.readPayload, [0x7E, 0, 0, 0], .none) := by decide

/-- V-RX, `7D` in `ReadPayload`. -/
theorem test_esc :
    rxSeen (exec .esc (rxAt Config.P0 3 .readPayload 3 1 1 0 [(0, 0x01)]))
      = some (.readEscapedByte, [3, 1, 1, 0], .none) := by decide

/-- V-RX, `81` in `ReadPayload`, P1: raw `STOP`, not a `START`. -/
theorem test_illMarkData :
    rxSeen (exec (.illMarkData 0x81) (rxAt Config.P1 1 .readPayload 1 0 0 0 []))
      = some (.waitStart, [0, 0, 0, 0], .drop .unescapedMarker) := by decide

/-- V-RX, `00` in `ReadPayload`: the last byte of the payload. -/
theorem test_data :
    rxSeen (exec (.data 0x00) (rxAt Config.P0 3 .readPayload 3 2 0x2B 0 [(0, 0x01), (1, 0x2A)]))
      = some (.readChecksum, [3, 3, 0x2B, 0], .none) := by decide

/-- V-RX, `5E` in `ReadEscapedByte`. -/
theorem test_escdStart :
    rxSeen (exec .escdStart (rxAt Config.P0 3 .readEscapedByte 3 0 0 0 []))
      = some (.readPayload, [3, 1, 0x7E, 0], .none) := by decide

/-- V-RX, `A1` in `ReadEscapedByte`, P1. -/
theorem test_escdStop :
    rxSeen (exec .escdStop (rxAt Config.P1 3 .readEscapedByte 3 0 0 0 []))
      = some (.readPayload, [3, 1, 0x81, 0], .none) := by decide

/-- V-RX, `5D` in `ReadEscapedByte`. -/
theorem test_escdEsc :
    rxSeen (exec .escdEsc (rxAt Config.P0 3 .readEscapedByte 3 2 0x7F 0 [(0, 0x7E), (1, 0x01)]))
      = some (.readChecksum, [3, 3, 0x02, 0], .none) := by decide

/-- V-RX, `21` in `ReadEscapedByte`. -/
theorem test_illEscData :
    rxSeen (exec (.illEscData 0x21) (rxAt Config.P0 3 .readEscapedByte 3 1 1 0 [(0, 0x01)]))
      = some (.waitStart, [0, 0, 0, 0], .drop .badEscape) := by decide

/-- V-RX, `7D` in `ReadChecksum`. -/
theorem test_escCk :
    rxSeen (exec .escCk (rxAt Config.P0 1 .readChecksum 1 1 0x7E 0 [(0, 0x7E)]))
      = some (.readEscapedChecksum, [1, 1, 0x7E, 0], .none) := by decide

/-- V-RX, `7E` in `ReadChecksum`. -/
theorem test_illMarkCk :
    rxSeen (exec (.illMarkCk 0x7E) (rxAt Config.P0 3 .readChecksum 3 3 0x2B 0 [(0, 0x01), (1, 0x2A), (2, 0x00)]))
      = some (.readLength, [0, 0, 0, 0], .drop .unescapedMarker) := by decide

/-- V-RX, `2C` in `ReadChecksum`: the comparison waits for `STOP`. -/
theorem test_cks :
    rxSeen (exec (.cks 0x2C) (rxAt Config.P0 3 .readChecksum 3 3 0x2B 0 [(0, 0x01), (1, 0x2A), (2, 0x00)]))
      = some (.expectStop, [3, 3, 0x2B, 0x2C], .none) := by decide

/-- V-RX, `5E` in `ReadEscapedChecksum`. -/
theorem test_esckStart :
    rxSeen (exec .esckStart (rxAt Config.P0 1 .readEscapedChecksum 1 1 0x7E 0 [(0, 0x7E)]))
      = some (.expectStop, [1, 1, 0x7E, 0x7E], .none) := by decide

/-- 30_encoding.md R56: `A1` in `ReadEscapedChecksum` is `81` in P1. -/
theorem test_esckStop :
    rxSeen (exec .esckStop (rxAt Config.P1 1 .readEscapedChecksum 1 1 0x81 0 [(0, 0x81)]))
      = some (.expectStop, [1, 1, 0x81, 0x81], .none) := by decide

/-- V-RX, `5D` in `ReadEscapedChecksum`: a valid escape carrying a wrong checksum. -/
theorem test_esckEsc :
    rxSeen (exec .esckEsc (rxAt Config.P0 3 .readEscapedChecksum 3 3 0x2B 0 [(0, 0x01), (1, 0x2A), (2, 0x00)]))
      = some (.expectStop, [3, 3, 0x2B, 0x7D], .none) := by decide

/-- V-RX, `00` in `ReadEscapedChecksum`. -/
theorem test_illEscCk :
    rxSeen (exec (.illEscCk 0x00) (rxAt Config.P0 3 .readEscapedChecksum 3 3 0x2B 0 [(0, 0x01), (1, 0x2A), (2, 0x00)]))
      = some (.waitStart, [0, 0, 0, 0], .drop .badEscape) := by decide

/-- V-RX, `7E` in `ExpectStop`. -/
theorem test_eof :
    rxSeen (exec .eof (rxAt Config.P0 3 .expectStop 3 3 0x2B 0x2B [(0, 0x01), (1, 0x2A), (2, 0x00)]))
      = some (.waitStart, [0, 0, 0, 0], .frameOk [0x01, 0x2A, 0x00]) := by decide

/-- V-RX, `7E` in `ExpectStop`, P1: `resync` sees `START`. -/
theorem test_illStop :
    rxSeen (exec (.illStop 0x7E) (rxAt Config.P1 3 .expectStop 3 3 0x2B 0x2B [(0, 0x01), (1, 0x2A), (2, 0x00)]))
      = some (.readLength, [0, 0, 0, 0], .drop .missingStop) := by decide

/-- Log entry 6: on the wire a row is its byte, so `SOF` (`7E`) met in `ReadPayload` is the raw marker it is there. -/
theorem test_sof_elsewhere :
    rxSeen (exec .sof (rxAt Config.P0 3 .readPayload 3 0 0 0 []))
      = some (.readLength, [0, 0, 0, 0], .drop .unescapedMarker) := by decide

/-! ## The RXIN rows (V-RX) -/

/-- V-RX, `7D` in `WaitStart`: `ESC` between frames is fill. -/
theorem test_rxByteWaitStart :
    rxSeen (exec (.rxByteWaitStart 0x7D) (rxAt Config.P0 3 .waitStart 0 0 0 0 []))
      = some (.waitStart, [0, 0, 0, 0], .none) := by decide

/-- V-RX, `00` in `ReadLength`, `RX_N` 0. -/
theorem test_rxByteReadLength :
    rxSeen (exec (.rxByteReadLength 0x00) (rxAt Config.P0 0 .readLength 0 0 0 0 []))
      = some (.readChecksum, [0, 0, 0, 0], .none) := by decide

/-- V-RX, `03` in `ReadLength`, `RX_N` 255. -/
theorem test_rxByteReadLength_over :
    rxSeen (exec (.rxByteReadLength 0x03) (rxAt Config.P0 255 .readLength 0 0 0 0 []))
      = some (.waitStart, [0, 0, 0, 0], .drop .sizeMismatch) := by decide

/-- V-RX, `01` in `ReadPayload`. -/
theorem test_rxByteReadPayload :
    rxSeen (exec (.rxByteReadPayload 0x01) (rxAt Config.P0 3 .readPayload 3 0 0 0 []))
      = some (.readPayload, [3, 1, 1, 0], .none) := by decide

/-- V-RX, `7E` in `ReadPayload`. -/
theorem test_rxByteReadPayload_marker :
    rxSeen (exec (.rxByteReadPayload 0x7E) (rxAt Config.P0 3 .readPayload 3 2 0x2B 0 [(0, 0x01), (1, 0x2A)]))
      = some (.readLength, [0, 0, 0, 0], .drop .unescapedMarker) := by decide

/-- V-RX, `A1` in `ReadEscapedByte`, P0: `81` is not reserved. -/
theorem test_rxByteReadEscapedByte :
    rxSeen (exec (.rxByteReadEscapedByte 0xA1) (rxAt Config.P0 3 .readEscapedByte 3 0 0 0 []))
      = some (.waitStart, [0, 0, 0, 0], .drop .badEscape) := by decide

/-- V-RX, `5E` in `ReadEscapedByte`: `rx_buf[0] = 7E`. -/
theorem test_rxByteReadEscapedByte_buf :
    rxBufSeen (exec (.rxByteReadEscapedByte 0x5E) (rxAt Config.P0 3 .readEscapedByte 3 0 0 0 [])) = [(0, 0x7E)] := by
  decide

/-- V-RX, `2B` in `ReadChecksum`. -/
theorem test_rxByteReadChecksum :
    rxSeen (exec (.rxByteReadChecksum 0x2B) (rxAt Config.P0 3 .readChecksum 3 3 0x2B 0 [(0, 0x01), (1, 0x2A), (2, 0x00)]))
      = some (.expectStop, [3, 3, 0x2B, 0x2B], .none) := by decide

/-- V-RX, `5E` in `ReadEscapedChecksum`. -/
theorem test_rxByteReadEscapedChecksum :
    rxSeen (exec (.rxByteReadEscapedChecksum 0x5E) (rxAt Config.P0 1 .readEscapedChecksum 1 1 0x7E 0 [(0, 0x7E)]))
      = some (.expectStop, [1, 1, 0x7E, 0x7E], .none) := by decide

/-- V-RX, `7E` in `ExpectStop`, the checksums differ. -/
theorem test_rxByteExpectStop_checksum :
    rxSeen (exec (.rxByteExpectStop 0x7E) (rxAt Config.P0 3 .expectStop 3 3 0x2B 0x2C [(0, 0x01), (1, 0x2A), (2, 0x00)]))
      = some (.waitStart, [0, 0, 0, 0], .drop .checksumError) := by decide

/-- V-RX, `00` in `ExpectStop`: stop is tested before the checksum. -/
theorem test_rxByteExpectStop_stop :
    rxSeen (exec (.rxByteExpectStop 0x00) (rxAt Config.P0 3 .expectStop 3 3 0x2B 0x2C [(0, 0x01), (1, 0x2A), (2, 0x00)]))
      = some (.waitStart, [0, 0, 0, 0], .drop .missingStop) := by decide

/-- V-RX, `T` in `ReadEscapedByte`. -/
theorem test_rxTimeout :
    rxSeen (exec .rxTimeout (rxAt Config.P0 3 .readEscapedByte 3 1 1 0 [(0, 0x01)]))
      = some (.waitStart, [0, 0, 0, 0], .drop .timeout) := by decide

/-- V-RX, `T` in `WaitStart`. -/
theorem test_rxTimeout_idle :
    rxSeen (exec .rxTimeout (rxAt Config.P0 3 .waitStart 0 0 0 0 []))
      = some (.waitStart, [0, 0, 0, 0], .none) := by decide

/-- V-RX, `X` in `WaitStart`. -/
theorem test_rxIoerr :
    rxSeen (exec .rxIoerr (rxAt Config.P0 3 .waitStart 0 0 0 0 []))
      = some (.waitStart, [0, 0, 0, 0], .drop .transportError) := by decide

/-! ## The TXIN rows (V-TX) -/

/-- V-TX, `TAKE` in `Idle`. -/
theorem test_txTakeIdle :
    txSeen (exec .txTakeIdle (txAt Config.P0 .idle 0 0 0 []))
      = some (.idle, [0, 0, 0], none, .none) := by decide

/-- V-TX, `TAKE` in `EmitStart`. -/
theorem test_txTakeEmitStart :
    txSeen (exec .txTakeEmitStart (txAt Config.P0 .emitStart 3 0 0x2B [(0, 0x01), (1, 0x2A), (2, 0x00)]))
      = some (.emitLen, [3, 0, 0x2B], some 0x7E, .none) := by decide

/-- V-TX, `TAKE` in `EmitLen`, `tx_len = 03`. -/
theorem test_txTakeEmitLen :
    txSeen (exec .txTakeEmitLen (txAt Config.P0 .emitLen 3 0 0x2B [(0, 0x01), (1, 0x2A), (2, 0x00)]))
      = some (.emitData, [3, 0, 0x2B], some 0x03, .none) := by decide

/-- V-TX, `TAKE` in `EmitLen`, `tx_len = 00`. -/
theorem test_txTakeEmitLen_empty :
    txSeen (exec .txTakeEmitLen (txAt Config.P0 .emitLen 0 0 0 []))
      = some (.emitCk, [0, 0, 0], some 0x00, .none) := by decide

/-- V-TX, `TAKE` in `EmitData`, the last byte. -/
theorem test_txTakeEmitData :
    txSeen (exec .txTakeEmitData (txAt Config.P0 .emitData 3 2 0x2B [(0, 0x01), (1, 0x2A), (2, 0x00)]))
      = some (.emitCk, [3, 3, 0x2B], some 0x00, .none) := by decide

/-- V-TX, `TAKE` in `EmitData`, a reserved byte. -/
theorem test_txTakeEmitData_reserved :
    txSeen (exec .txTakeEmitData (txAt Config.P0 .emitData 1 0 0x7E [(0, 0x7E)]))
      = some (.emitDataEsc2, [1, 0, 0x7E], some 0x7D, .none) := by decide

/-- V-TX, `TAKE` in `EmitDataEsc2`, the last byte. -/
theorem test_txTakeEmitDataEsc2 :
    txSeen (exec .txTakeEmitDataEsc2 (txAt Config.P0 .emitDataEsc2 1 0 0x7E [(0, 0x7E)]))
      = some (.emitCk, [1, 1, 0x7E], some 0x5E, .none) := by decide

/-- V-TX, `TAKE` in `EmitDataEsc2`, a byte to come. -/
theorem test_txTakeEmitDataEsc2_more :
    txSeen (exec .txTakeEmitDataEsc2 (txAt Config.P0 .emitDataEsc2 2 0 0x7D [(0, 0x7D), (1, 0x00)]))
      = some (.emitData, [2, 1, 0x7D], some 0x5D, .none) := by decide

/-- V-TX, `TAKE` in `EmitCk`, `tx_ck = 2B`. -/
theorem test_txTakeEmitCk :
    txSeen (exec .txTakeEmitCk (txAt Config.P0 .emitCk 3 3 0x2B [(0, 0x01), (1, 0x2A), (2, 0x00)]))
      = some (.emitStop, [3, 3, 0x2B], some 0x2B, .none) := by decide

/-- V-TX, `TAKE` in `EmitCk`, `tx_ck = 7E`. -/
theorem test_txTakeEmitCk_reserved :
    txSeen (exec .txTakeEmitCk (txAt Config.P0 .emitCk 1 1 0x7E [(0, 0x7E)]))
      = some (.emitCkEsc2, [1, 1, 0x7E], some 0x7D, .none) := by decide

/-- V-TX, `TAKE` in `EmitCkEsc2`, `tx_ck = 7E`. -/
theorem test_txTakeEmitCkEsc2 :
    txSeen (exec .txTakeEmitCkEsc2 (txAt Config.P0 .emitCkEsc2 1 1 0x7E [(0, 0x7E)]))
      = some (.emitStop, [1, 1, 0x7E], some 0x5E, .none) := by decide

/-- V-TX, `TAKE` in `EmitStop`, P1. -/
theorem test_txTakeEmitStop :
    txSeen (exec .txTakeEmitStop (txAt Config.P1 .emitStop 3 3 0x2B [(0, 0x01), (1, 0x2A), (2, 0x00)]))
      = some (.idle, [3, 3, 0x2B], some 0x81, .txDone) := by decide

/-- V-TX, `SEND[01 2A 00]` in `Idle`. -/
theorem test_txSend :
    txSeen (exec (.txSend [0x01, 0x2A, 0x00]) (txAt Config.P0 .idle 0 0 0 []))
      = some (.emitStart, [3, 0, 0x2B], none, .none) := by decide

/-- V-TX, a payload too large in `EmitLen`: busy is tested first. -/
theorem test_txSend_busy :
    txSeen (exec (.txSend [0x01, 0x2A, 0x00]) (txAt small .emitLen 1 0 0x09 [(0, 0x09)]))
      = some (.emitLen, [1, 0, 0x09], none, .txError .txBusy) := by decide

/-- V-TX, `WERR` in `EmitStop`. -/
theorem test_txWerr :
    txSeen (exec .txWerr (txAt Config.P0 .emitStop 3 3 0x2B [(0, 0x01), (1, 0x2A), (2, 0x00)]))
      = some (.idle, [3, 3, 0x2B], none, .txError .transportError) := by decide

/-- V-TX, `WERR` in `Idle`. -/
theorem test_txWerr_idle :
    txSeen (exec .txWerr (txAt Config.P0 .idle 0 0 0 []))
      = some (.idle, [0, 0, 0], none, .none) := by decide

/-! ## HOST, INTERNAL and PSEUDO rows -/

/-- T6: `SETN(2)` in mid-frame; RX stands as it stood, `RX_N` is 2. -/
theorem test_cfgSetn :
    rxSeen (exec (.cfgSetn 2) (rxAt Config.P0 3 .readPayload 3 1 1 0 [(0, 0x01)])) = some (.readPayload, [3, 1, 1, 0], .none)
    ∧ rxSeen (step { rxAt Config.P0 2 .readLength 0 0 0 0 [] with pending := [.rx (.byte 3)] })
        = some (.waitStart, [0, 0, 0, 0], .drop .sizeMismatch) := by decide

/-- V-RX, `RESET`. -/
theorem test_reset :
    rxSeen (exec .reset (rxAt Config.P0 3 .readPayload 3 1 1 0 [(0, 0x01)])) = some (.waitStart, [0, 0, 0, 0], .none)
    ∧ txSeen (exec .reset (txAt Config.P0 .emitCk 1 1 9 [(0, 0x09)])) = some (.idle, [0, 0, 0], none, .none) := by decide

/-- V-ENC, `[7E 7D 5E]` in P2. -/
theorem test_encodeFrame :
    resultSeen (exec (.encodeFrame [0x7E, 0x7D, 0x5E]) (start Config.P2 0))
      = .bytes [0x7E, 0x03, 0x7D, 0x5E, 0x7D, 0x5D, 0x5E, 0x9D, 0x81] := by decide +kernel

/-- 41_encoder.md R77 at the limit: a payload longer than `MAX_PAYLOAD` has no frame. -/
theorem test_encodeFrame_tooLarge :
    resultSeen (exec (.encodeFrame [1, 2, 3]) (start small 0)) = .error .payloadTooLarge
    ∧ resultSeen (exec (.encodeFrame [1, 2]) (start small 0)) = .bytes [0x7E, 0x02, 0x01, 0x02, 0x03, 0x81] := by decide

/-- 40_checksum.md R68: `INIT` of `CRC8`, else `00`. -/
theorem test_ckInit :
    accSeen (exec (.ckInit .rx) (start { Config.P2 with ckAlg := .crc8 0x07 0xFF } 0)) = [0xFF, 0xFF]
    ∧ accSeen (exec (.ckInit .tx) (txAt Config.P0 .emitCk 1 1 9 [(0, 0x09)])) = [0x00, 0x00] := by decide

/-- V-CK, XOR8: `01, 2A -> 2B`; `7E, 7E -> 00`. -/
theorem test_ckUpdateXor8 :
    accSeen (exec (.ckUpdateXor8 .rx 0x2A) (rxAt Config.P0 3 .readPayload 3 1 1 0 [(0, 0x01)])) = [0x2B, 0x00]
    ∧ accSeen (exec (.ckUpdateXor8 .tx 0x7E) (txAt Config.P0 .emitCk 1 1 0x7E [(0, 0x7E)])) = [0x00, 0x00] := by decide

/-- V-CK, ADD8: `F0, 20 -> 10`; `FF, 01 -> 00`. -/
theorem test_ckUpdateAdd8 :
    accSeen (exec (.ckUpdateAdd8 .rx 0x20) (rxAt Config.P1 3 .readPayload 3 1 0xF0 0 [(0, 0xF0)])) = [0x10, 0x00]
    ∧ accSeen (exec (.ckUpdateAdd8 .tx 0x01) (txAt Config.P1 .emitCk 1 1 0xFF [(0, 0xFF)])) = [0x00, 0x00] := by decide

/-- V-CK, CRC8(07): `00, 80 -> 89`; `FF, 00 -> F3`. -/
theorem test_ckUpdateCrc8 :
    accSeen (exec (.ckUpdateCrc8 .rx 0x07 0x80) (start Config.P2 0)) = [0x89, 0x00]
    ∧ accSeen (exec (.ckUpdateCrc8 .tx 0x07 0x00) (txAt Config.P2 .emitCk 1 1 0xFF [(0, 0xFF)])) = [0x00, 0xF3] := by
  decide +kernel

/-- V-CK, `crc_bit` with `POLY = 07`: `80 -> 07`, `FF -> F9`, `40 -> 80`. -/
theorem test_crcBit :
    resultSeen (exec (.crcBit 0x07 0x80) (start Config.P2 0)) = .byte 0x07
    ∧ resultSeen (exec (.crcBit 0x07 0xFF) (start Config.P2 0)) = .byte 0xF9
    ∧ resultSeen (exec (.crcBit 0x07 0x40) (start Config.P2 0)) = .byte 0x80 := by decide

/-- V-CK, `CK.FOLD` of `[01 00 2A]`: `2B`, `2B`, `BD`. -/
theorem test_ckFold :
    resultSeen (exec (.ckFold [0x01, 0x00, 0x2A]) (start Config.P0 0)) = .byte 0x2B
    ∧ resultSeen (exec (.ckFold [0x01, 0x00, 0x2A]) (start Config.P1 0)) = .byte 0x2B
    ∧ resultSeen (exec (.ckFold [0x01, 0x00, 0x2A]) (start Config.P2 0)) = .byte 0xBD := by decide +kernel

/-- V-CK, `CK.FOLD` of the nine digits: `31`, `DD`, `F4`. -/
theorem test_ckFold_digits :
    Config.P0.ckFold [0x31, 0x32, 0x33, 0x34, 0x35, 0x36, 0x37, 0x38, 0x39] = 0x31
    ∧ Config.P1.ckFold [0x31, 0x32, 0x33, 0x34, 0x35, 0x36, 0x37, 0x38, 0x39] = 0xDD
    ∧ Config.P2.ckFold [0x31, 0x32, 0x33, 0x34, 0x35, 0x36, 0x37, 0x38, 0x39] = 0xF4 := by decide +kernel

/-- 42_decoder.md R98, `clear`: no event, `rx_buf` not touched. -/
theorem test_clear :
    rxSeen (exec .clear (rxAt Config.P0 3 .expectStop 3 3 0x2B 0x2C [(0, 0x01)])) = some (.waitStart, [0, 0, 0, 0], .none)
    ∧ rxBufSeen (exec .clear (rxAt Config.P0 3 .expectStop 3 3 0x2B 0x2C [(0, 0x01)])) = [(0, 0x01)] := by decide

/-- 42_decoder.md R98, `resync`: the byte `START` opens the next frame, another does not. -/
theorem test_resync :
    rxSeen (exec (.resync 0x7E .badEscape) (rxAt Config.P0 3 .readEscapedByte 3 1 1 0 [(0, 0x01)]))
      = some (.readLength, [0, 0, 0, 0], .drop .badEscape)
    ∧ rxSeen (exec (.resync 0x7D .badEscape) (rxAt Config.P0 3 .readEscapedByte 3 1 1 0 [(0, 0x01)]))
      = some (.waitStart, [0, 0, 0, 0], .drop .badEscape) := by decide


/-- 42_decoder.md R102: the last byte of a payload. -/
theorem test_store :
    rxSeen (exec (.store 0x00) (rxAt Config.P0 3 .readPayload 3 2 0x2B 0 [(0, 0x01), (1, 0x2A)]))
      = some (.readChecksum, [3, 3, 0x2B, 0], .none) := by decide

/-- Log entry 11: `rx_buf[MAX_PAYLOAD]` does not exist; the element before it does. -/
theorem test_store_bound :
    stopSeen (exec (.store 0x00) (rxAt small 2 .readPayload 3 2 0 0 [])) = some (.inl .bufferIndexOutOfRange)
    ∧ rxBufSeen (exec (.store 0x05) (rxAt small 2 .readPayload 3 1 0 0 [])) = [(1, 0x05)] := by decide

/-- 42_decoder.md R107: the result is yielded, the registers are reset. -/
theorem test_done :
    rxSeen (exec .done (rxAt Config.P0 3 .expectStop 3 3 0x2B 0x2B [(0, 0x01), (1, 0x2A), (2, 0x00)]))
      = some (.waitStart, [0, 0, 0, 0], .frameOk [0x01, 0x2A, 0x00]) := by decide

/-- 41_encoder.md R85: the last byte. -/
theorem test_advance :
    txSeen (exec .advance (txAt Config.P0 .emitData 3 2 0x2B [(0, 0x01), (1, 0x2A), (2, 0x00)]))
      = some (.emitCk, [3, 3, 0x2B], none, .none) := by decide

/-- 41_encoder.md R85: a byte to come. -/
theorem test_advance_more :
    txSeen (exec .advance (txAt Config.P0 .emitDataEsc2 3 0 0x2B [(0, 0x01), (1, 0x2A), (2, 0x00)]))
      = some (.emitData, [3, 1, 0x2B], none, .none) := by decide

/-- T4 (b), `FRAME[] = 7E 00 00 7E`, before the inputs to come. -/
theorem test_frame :
    pendingSeen (exec (.frame []) { start Config.P0 0 with pending := [.rx .timeout] })
      = [.rx (.byte 0x7E), .rx (.byte 0x00), .rx (.byte 0x00), .rx (.byte 0x7E), .rx .timeout] := by decide

/-- 30_encoding.md R66, `TAKE*n`. -/
theorem test_takeN :
    pendingSeen (exec (.takeN 2) { start Config.P0 0 with pending := [.rx .timeout] })
      = [.tx .take, .tx .take, .rx .timeout] := by decide

/-- T1: `SENDALL[7E 01 7D]` is `SEND[7E 01 7D] TAKE*9`. -/
theorem test_sendAll :
    pendingSeen (exec (.sendAll [0x7E, 0x01, 0x7D]) (start Config.P0 0))
      = .tx (.send [0x7E, 0x01, 0x7D]) :: List.replicate 9 (.tx .take) := by decide

/-- The unused kinds are refused (30_encoding.md R64). -/
theorem test_reserved3 :
    stopSeen (exec (.rxReserved3 0x05) (start Config.P0 3)) = some (.inr .rxinKindUnused)
    ∧ stopSeen (exec .txReserved3 (start Config.P0 3)) = some (.inr .txinKindUnused) := by decide

/-- 00_scope.md R11: `ESC = START` is refused by the step. -/
theorem test_step_refuses_config :
    stopSeen (step { start { Config.P0 with esc := 0x7E } 3 with pending := [.rx .timeout] })
      = some (.inr .configNotWellFormed) := by decide

/-! ## The host's side -/

/-- 10_state.md R29, R17, R24: the status view. -/
theorem test_status :
    (rxAt Config.P0 3 .readEscapedByte 3 1 1 0 [(0, 0x01)]).status
      = { rxState := 3, rxLen := 3, rxIdx := 1, rxCk := 1, rxCkrx := 0, txState := 0, txLen := 0, txIdx := 0, txCk := 0,
          rxN := 3 } := by decide

/-- 60_exceptions.md R128, R145: the host's projections. -/
theorem test_host_views :
    (RxEvent.drop .checksumError).defaultView = .noDataGoesOn
    ∧ (RxEvent.drop .checksumError).diagnosticView = .error .checksumError
    ∧ (RxEvent.drop .timeout).diagnosticView = .noDataEnds
    ∧ (RxEvent.drop .transportError).defaultView = .error .transportError
    ∧ (TxEvent.txError .txBusy).sendResult = some (.error .txBusy) := by decide

/-- S5: `7E 03 01 T`, then the frame of `[01 2A 00]`, under one receive call each (42_decoder.md R119). -/
theorem test_tryReceive :
    (match tryReceive Config.P0 3 (RxRegs.reset Config.P0 0) [.byte 0x7E, .byte 0x03, .byte 0x01, .timeout, .byte 0x00] with
      | .ok (v, _, rest) => some (v, rest)
      | .error _ => none) = some (.noData, [.byte 0x00])
    ∧ (match tryReceive Config.P0 0 (RxRegs.reset Config.P0 0) [.byte 0x7E, .byte 0x00, .byte 0x00, .byte 0x7E] with
      | .ok (v, _, rest) => some (v, rest)
      | .error _ => none) = some (.payload [], []) := by decide

/-- 42_decoder.md R122: `decode_frame` of V-ENC's `[7E]` in P2. -/
theorem test_decodeFrame :
    decodeFrame Config.P2 1 [0x7E, 0x01, 0x7D, 0x5E, 0x7D, 0x5D, 0x81] = .ok (some [0x7E]) := by decide

/-- T7, tokens 0 to 2 and 5: `SEND[09] TAKE TAKE WERR`. -/
theorem test_txRun :
    (match txRun Config.P0 (TxRegs.reset Config.P0 0) [.send [0x09], .take, .take, .writeError] with
      | .ok (t, os) => some (t.state, os)
      | .error _ => none)
      = some (.idle, [(none, .none), (some 0x7E, .none), (some 0x01, .none), (none, .txError .transportError)]) := by
  decide

/-! ## Witnesses: for every statement with hypotheses, concrete states and operands that meet them, one for each clause
and at the ends of ranges -/

/-- A frame half received: RX in `ReadPayload`, P0, size 3, one byte in. -/
def midRx : State := rxAt Config.P0 3 .readPayload 3 1 1 0 [(0, 0x01)]

/-- A frame half sent: TX in `EmitData`, P0, `[7E]`. -/
def midTx : State := txAt Config.P0 .emitData 1 0 0x7E [(0, 0x7E)]

theorem midRx_rxInv : RxInv midRx.cfg midRx.rx :=
  ⟨⟨by decide, by decide⟩, by decide, by decide, by decide, (by decide : ∀ i, i < 1 → _), by decide, rfl⟩

theorem midRx_inv : Inv midRx :=
  ⟨by decide, midRx_rxInv, ⟨⟨by decide, by decide⟩, trivial⟩, trivial, trivial, by decide⟩

theorem midTx_inv : Inv midTx :=
  ⟨by decide, ⟨⟨by decide, by decide⟩, rfl, rfl, rfl, rfl⟩,
    ⟨⟨by decide, by decide⟩, ⟨by decide, (by decide : ∀ i, i < 1 → _), by decide⟩, by decide⟩, trivial, trivial, by decide⟩

/-- The invariant does not look at the inputs to come, so long as they are the core's. -/
theorem inv_withPending {s : State} (h : Inv s) {is : List Input} (hi : ∀ w ∈ is, w.isInterface = true) :
    Inv { s with pending := is } :=
  ⟨h.cfg, h.rx, h.tx, h.rxEvent, h.txEvent, hi⟩

theorem witness_ChecksumSeesEveryOneByteChange : Config.P2.wf = true ∧ (0x01 : Byte) ≠ 0x02 := by decide

/-- One profile for each algorithm. -/
theorem witness_CkFoldUpdatesByteByByte :
    (start Config.P0 0).cfg.ckAlg = .xor8 ∧ (start Config.P1 0).cfg.ckAlg = .add8
    ∧ (start Config.P2 0).cfg.ckAlg = .crc8 0x07 0x00 := by decide

theorem witness_EncodeFrameAnswersTheFrame :
    (start small 0).cfg.wf = true ∧ [(1 : Byte), 2].length = small.maxPayload
    ∧ [(1 : Byte), 2, 3].length > small.maxPayload := by decide

theorem witness_SendLoadsOrRefuses :
    small.wf = true ∧ (txAt small .emitStop 1 1 9 [(0, 0x09)]).tx.state ≠ .idle
    ∧ (txAt small .idle 0 0 0 []).tx.state = .idle ∧ [(1 : Byte), 2, 3].length > small.maxPayload
    ∧ [(1 : Byte), 2].length = small.maxPayload := by decide

theorem witness_TakeEmitsMarkersAndLength :
    Config.P0.wf = true ∧ (txAt Config.P0 .idle 0 0 0 []).tx.state = .idle
    ∧ (txAt Config.P0 .emitStart 0 0 0 []).tx.state = .emitStart
    ∧ (txAt Config.P0 .emitLen 0 0 0 []).tx.state = .emitLen ∧ (txAt Config.P0 .emitLen 1 0 9 [(0, 0x09)]).tx.len ≠ 0
    ∧ (txAt Config.P0 .emitStop 0 0 0 []).tx.state = .emitStop := by decide

/-- The last element of the buffer, reserved and not. -/
theorem witness_TakeEmitsPayloadStuffed :
    small.wf = true ∧ (txAt small .emitData 2 1 0 [(0, 0x01), (1, 0x7E)]).tx.idx.toNat + 1 = small.maxPayload
    ∧ small.isReserved ((txAt small .emitData 2 1 0 [(0, 0x01), (1, 0x7E)]).tx.read 1) = true
    ∧ small.isReserved ((txAt small .emitData 2 1 0 [(0, 0x01), (1, 0x09)]).tx.read 1) = false
    ∧ (txAt small .emitDataEsc2 2 1 0 [(0, 0x01), (1, 0x7E)]).tx.state = .emitDataEsc2 := by decide

theorem witness_TakeEmitsChecksumStuffed :
    Config.P0.wf = true ∧ Config.P0.isReserved (txAt Config.P0 .emitCk 1 1 0x7E [(0, 0x7E)]).tx.ck = true
    ∧ Config.P0.isReserved (txAt Config.P0 .emitCk 1 1 0x7F [(0, 0x7F)]).tx.ck = false
    ∧ (txAt Config.P0 .emitCkEsc2 1 1 0x7E [(0, 0x7E)]).tx.state = .emitCkEsc2 := by decide

theorem witness_WriteErrorAbandonsTheFrame :
    (start Config.P0 0).cfg.wf = true ∧ (start Config.P0 0).tx.state = .idle ∧ midTx.cfg.wf = true
    ∧ midTx.tx.state ≠ .idle := by decide

theorem witness_AdvanceCountsOneByte : midTx.cfg.wf = true ∧ midTx.tx.idx + 1 = midTx.tx.len := by decide

/-- Each of the three ways. -/
theorem witness_OnlyThreeWaysBackToIdle :
    (∃ t, exec .txTakeEmitStop (txAt Config.P0 .emitStop 0 0 0 []) = .next t ∧ t.tx.state = .idle ∧ t.txEvent = .txDone)
    ∧ (∃ t, exec .txWerr midTx = .next t ∧ t.tx.state = .idle) ∧ (∃ t, exec .reset midTx = .next t ∧ t.tx.state = .idle)
    ∧ (txAt Config.P0 .emitStop 0 0 0 []).tx.state ≠ .idle ∧ midTx.tx.state ≠ .idle :=
  ⟨⟨_, rfl, by decide⟩, ⟨_, rfl, by decide⟩, ⟨_, rfl, by decide⟩, by decide, by decide⟩

theorem witness_ClearAndResyncEmptyTheParser :
    midRx.cfg.wf = true ∧ (0x7E : Byte) = midRx.cfg.start ∧ (0x7D : Byte) ≠ midRx.cfg.start := by decide

theorem witness_StoreAppendsOneByte :
    small.wf = true ∧ (rxAt small 2 .readPayload 2 1 0 0 []).rx.idx.toNat + 1 = small.maxPayload := by decide

theorem witness_DoneYieldsAndResets :
    small.wf = true ∧ (rxAt small 2 .expectStop 2 2 0 0 []).rx.len.toNat = small.maxPayload := by decide

theorem witness_WaitStartActsOnStartOnly :
    (start Config.P0 3).cfg.wf = true ∧ (start Config.P0 3).rx.state = .waitStart ∧ (0x7E : Byte) = Config.P0.start
    ∧ (0x7F : Byte) ≠ Config.P0.start := by decide

/-- `FF` is one above `MAX_PAYLOAD`, `FE` is `MAX_PAYLOAD`. -/
theorem witness_ReadLengthJudgesTheSize :
    Config.P0.wf = true ∧ (rxAt Config.P0 3 .readLength 0 0 0 0 []).rx.state = .readLength
    ∧ (0xFF : Byte).toNat = Config.P0.maxPayload + 1 ∧ (0xFE : Byte).toNat = Config.P0.maxPayload ∧ (0xFE : Byte) ≠ 3
    ∧ (rxAt Config.P0 0xFE .readLength 0 0 0 0 []).rxN = 0xFE := by decide

theorem witness_ReadPayloadStoresOrEscapes :
    small.wf = true ∧ (rxAt small 2 .readPayload 2 1 0 0 [(0, 0x00)]).rx.state = .readPayload
    ∧ (rxAt small 2 .readPayload 2 1 0 0 [(0, 0x00)]).rx.idx.toNat + 1 = small.maxPayload
    ∧ (0x7D : Byte) = small.esc ∧ (0x7E : Byte) = small.start ∧ (0x81 : Byte) = small.stop
    ∧ small.isReserved 0x80 = false := by decide

theorem witness_ReadEscapedByteUnescapes :
    small.wf = true ∧ (rxAt small 2 .readEscapedByte 2 1 0 0 [(0, 0x00)]).rx.state = .readEscapedByte
    ∧ (rxAt small 2 .readEscapedByte 2 1 0 0 [(0, 0x00)]).rx.idx.toNat + 1 = small.maxPayload
    ∧ small.isReserved ((0x5E : Byte) ^^^ small.escXor) = true ∧ small.isReserved ((0x5F : Byte) ^^^ small.escXor) = false := by
  decide

theorem witness_ReadChecksumHoldsTheByte :
    Config.P1.wf = true ∧ (rxAt Config.P1 0 .readChecksum 0 0 0 0 []).rx.state = .readChecksum
    ∧ (0x7D : Byte) = Config.P1.esc ∧ (0x81 : Byte) = Config.P1.stop ∧ Config.P1.isReserved 0x7F = false := by decide

theorem witness_ReadEscapedChecksumUnescapes :
    Config.P1.wf = true ∧ (rxAt Config.P1 0 .readEscapedChecksum 0 0 0 0 []).rx.state = .readEscapedChecksum
    ∧ Config.P1.isReserved ((0xA1 : Byte) ^^^ Config.P1.escXor) = true
    ∧ Config.P1.isReserved ((0xA0 : Byte) ^^^ Config.P1.escXor) = false := by decide

/-- The longest length, and each arm. -/
theorem witness_ExpectStopJudgesTheFrame :
    small.wf = true ∧ (rxAt small 2 .expectStop 2 2 3 3 [(0, 1), (1, 2)]).rx.state = .expectStop
    ∧ (rxAt small 2 .expectStop 2 2 3 3 [(0, 1), (1, 2)]).rx.len.toNat = small.maxPayload
    ∧ (0x80 : Byte) ≠ small.stop ∧ (0x81 : Byte) = small.stop
    ∧ (rxAt small 2 .expectStop 2 2 3 4 [(0, 1), (1, 2)]).rx.ckrx ≠ 3 := by decide

theorem witness_TimeoutAndIoErrorClear :
    (start Config.P0 3).cfg.wf = true ∧ (start Config.P0 3).rx.state = .waitStart ∧ midRx.cfg.wf = true
    ∧ midRx.rx.state ≠ .waitStart := by decide

theorem witness_WireRowsStartAndLength :
    Config.P0.wf = true ∧ (start Config.P0 3).rx.state = .waitStart ∧ (0x7D : Byte) ≠ Config.P0.start
    ∧ (rxAt Config.P0 3 .readLength 0 0 0 0 []).rx.state = .readLength ∧ (0xFF : Byte).toNat > Config.P0.maxPayload
    ∧ (0xFE : Byte).toNat ≤ Config.P0.maxPayload ∧ (0xFE : Byte) ≠ 3
    ∧ (rxAt Config.P0 0xFE .readLength 0 0 0 0 []).rxN = 0xFE := by decide

theorem witness_WireRowsPayloadField :
    small.wf = true ∧ (rxAt small 2 .readPayload 2 1 0 0 [(0, 0)]).rx.idx.toNat + 1 = small.maxPayload
    ∧ (rxAt small 2 .readPayload 2 1 0 0 [(0, 0)]).rx.state = .readPayload ∧ (0x81 : Byte) = small.stop
    ∧ small.isReserved 0x80 = false ∧ (rxAt small 2 .readEscapedByte 2 1 0 0 [(0, 0)]).rx.state = .readEscapedByte
    ∧ small.isReserved ((0x7E : Byte) ^^^ small.escXor) = false := by decide

theorem witness_WireRowsChecksumFieldAndEnd :
    small.wf = true ∧ (rxAt small 0 .readChecksum 0 0 0 0 []).rx.state = .readChecksum ∧ (0x7E : Byte) = small.start
    ∧ small.isReserved 0x80 = false ∧ (rxAt small 0 .readEscapedChecksum 0 0 0 0 []).rx.state = .readEscapedChecksum
    ∧ small.isReserved ((0x00 : Byte) ^^^ small.escXor) = false
    ∧ (rxAt small 2 .expectStop 2 2 3 3 [(0, 1), (1, 2)]).rx.state = .expectStop
    ∧ (rxAt small 2 .expectStop 2 2 3 3 [(0, 1), (1, 2)]).rx.len.toNat = small.maxPayload ∧ (0x80 : Byte) ≠ small.stop := by
  decide

/-- Each agent with a step that answers, and one, outside the invariant, that faults. -/
theorem witness_ByteRowsAreTheirWireRows :
    midRx.cfg.wf = true ∧ (∃ r e, rxStep midRx.cfg midRx.rxN midRx.rx (.byte 0x2A) = .ok (r, e))
    ∧ rxStep small 2 (rxAt small 2 .readPayload 3 2 0 0 []).rx (.byte 0x2A) = .error .bufferIndexOutOfRange
    ∧ (∃ o, txStep midTx.cfg midTx.tx .take = .ok o)
    ∧ txStep small (txAt small .emitData 3 2 0 []).tx .take = .error .bufferIndexOutOfRange :=
  ⟨by decide, ⟨_, _, rfl⟩, rfl, ⟨_, rfl⟩, rfl⟩

theorem witness_PseudoTokensExpand :
    (start small 0).cfg.wf = true ∧ [(1 : Byte), 2].length = small.maxPayload
    ∧ [(1 : Byte), 2, 3].length > small.maxPayload := by decide

/-- Both sides of the bound. -/
theorem witness_MissingElementsFault :
    (rxAt small 2 .readPayload 3 2 0 0 []).rx.idx.toNat = small.maxPayload
    ∧ (rxAt small 2 .expectStop 3 3 0 0 []).rx.len.toNat = small.maxPayload + 1
    ∧ (txAt small .emitData 3 2 0 []).tx.state = .emitData ∧ (txAt small .emitData 3 2 0 []).tx.idx.toNat = small.maxPayload
    ∧ (txAt small .emitDataEsc2 2 1 0 []).tx.state = .emitDataEsc2
    ∧ (txAt small .emitDataEsc2 2 1 0 []).tx.idx.toNat < small.maxPayload := by decide

/-- One row of each encoded format. -/
theorem witness_DecodeOfEncodeGivesBack :
    Config.P1.wf = true
    ∧ (Instr.escdStop.wellFormed Config.P1 3 = true ∧ Instr.escdStop.standsIn (ctx Config.P1 .readEscapedByte .idle) = true
      ∧ encode Config.P1 .escdStop = some (.wire 0xA1))
    ∧ ((Instr.rxByteReadLength 0xFF).wellFormed Config.P1 3 = true
      ∧ (Instr.rxByteReadLength 0xFF).standsIn (ctx Config.P1 .readLength .idle) = true
      ∧ encode Config.P1 (.rxByteReadLength 0xFF) = some (.rxin 0b0011111111))
    ∧ ((Instr.txSend [9]).wellFormed Config.P1 3 = true
      ∧ (Instr.txSend [9]).standsIn (ctx Config.P1 .waitStart .emitCk) = true
      ∧ encode Config.P1 (.txSend [9]) = some (.txin 0b01 [9])) := by decide

/-- A well-formed row and the two unused kinds. -/
theorem witness_EncodeOfDecodeGivesBack :
    Config.P1.wf = true ∧ decode (ctx Config.P1 .readEscapedByte .idle) (.wire 0xA1) = .ok .escdStop
    ∧ decode (ctx Config.P1 .waitStart .idle) (.rxin 0b1111111111) = .ok (.rxReserved3 0xFF)
    ∧ decode (ctx Config.P1 .waitStart .idle) (.txin 0b11 []) = .ok .txReserved3 := by decide

/-- Each of the five clauses. -/
theorem witness_StepRunsTheDecodedInstruction :
    (start Config.P0 3).cfg.wf = true
    ∧ ({ start Config.P0 3 with pending := [.code (.wire 0x7E), .tx .take] } : State).pending = .code (.wire 0x7E) :: [.tx .take]
    ∧ decode (start Config.P0 3).context (.wire 0x7E) = .ok .sof
    ∧ decode (start Config.P0 3).context (.other 3 7) = .error .noSuchFormat
    ∧ ({ start Config.P0 3 with pending := [.rx .timeout] } : State).pending = .rx .timeout :: []
    ∧ ({ start Config.P0 3 with pending := [.tx .take] } : State).pending = .tx .take :: []
    ∧ ({ start Config.P0 3 with pending := [.call .reset] } : State).pending = .call .reset :: [] := by decide

theorem witness_AtRestNothingChanges : State.reset.cfg.wf = true ∧ State.reset.pending = [] := by decide

theorem witness_IllFormedConfigurationsAreRefused :
    (start { Config.P0 with escXor := 0x03 } 0).cfg.wf = false ∧ (start Config.P0 0).cfg.wf = true
    ∧ Reserved Config.P0 0x7D := by
  exact ⟨by decide, by decide, .inr (.inr rfl)⟩

theorem witness_EveryStepKeepsTheInvariant :
    (∃ s t : State, Inv s ∧ step s = .next t ∧ s.rx.state = .readPayload ∧ t.rx.state = .readEscapedByte)
    ∧ ∃ s t : State, Inv s ∧ step s = .next t ∧ s.tx.state = .emitData ∧ t.tx.state = .emitDataEsc2 :=
  ⟨⟨{ midRx with pending := [.rx (.byte 0x7D)] }, _, inv_withPending midRx_inv (by decide), rfl, rfl, rfl⟩,
    ⟨{ midTx with pending := [.tx .take] }, _, inv_withPending midTx_inv (by decide), rfl, rfl, rfl⟩⟩

theorem witness_InputsAlwaysComplete :
    Inv { midRx with pending := [.rx (.byte 0x7D)] } ∧ Inv { midTx with pending := [.tx .take] }
    ∧ Inv { midRx with pending := [.call (.cfgSetn 0xFF)] } ∧ Inv { midRx with pending := [.call .reset] } :=
  ⟨inv_withPending midRx_inv (by decide), inv_withPending midTx_inv (by decide),
    inv_withPending midRx_inv (by decide), inv_withPending midRx_inv (by decide)⟩

/-- A row of the wire, which stores; one that counts no byte; one of TX, one of the host, a pseudo-token; and a row of the
wire where RX does not store. -/
theorem witness_WhoMayWriteWhat :
    (∃ t, exec (.data 0x2A) midRx = .next t ∧ t.rx.idx = midRx.rx.idx + 1)
    ∧ (∃ t, exec .esc midRx = .next t ∧ t.rx.idx ≠ midRx.rx.idx + 1)
    ∧ (∃ t, exec .txTakeEmitData midTx = .next t) ∧ StoresNothing midTx .txTakeEmitData
    ∧ (∃ t, exec (.cfgSetn 2) midRx = .next t) ∧ (∃ t, exec (.takeN 2) midRx = .next t)
    ∧ (∃ t, exec (.fill 0x55) midTx = .next t) ∧ StoresNothing midTx (.fill 0x55) :=
  ⟨⟨_, rfl, rfl⟩, ⟨_, rfl, by decide⟩, ⟨_, rfl⟩, ⟨fun _ => Instr.noConfusion, .inl (by decide)⟩, ⟨_, rfl⟩, ⟨_, rfl⟩,
    ⟨_, rfl⟩, ⟨fun _ => Instr.noConfusion, .inr (.inr (.inr (by decide)))⟩⟩

/-- Either order. -/
theorem witness_AgentsAreIndependent :
    (∃ a ab, exec (rxRow midTx.rx.state (.byte 0x7E)) midTx = .next a ∧ exec (txRow a.tx.state .take) a = .next ab)
    ∧ ∃ b ba, exec (txRow midTx.tx.state .take) midTx = .next b ∧ exec (rxRow b.rx.state (.byte 0x7E)) b = .next ba :=
  ⟨⟨_, _, rfl, rfl⟩, ⟨_, _, rfl, rfl⟩⟩

/-- A `FrameOk`, a `ChecksumError`, and a byte in `WaitStart`. -/
theorem witness_WhereEventsArise :
    Config.P0.wf = true
    ∧ (∃ r', rxStep Config.P0 1 (rxAt Config.P0 1 .expectStop 1 1 9 9 [(0, 9)]).rx (.byte 0x7E) = .ok (r', .frameOk [9]))
    ∧ (∃ r', rxStep Config.P0 1 (rxAt Config.P0 1 .expectStop 1 1 9 8 [(0, 9)]).rx (.byte 0x7E)
        = .ok (r', .drop .checksumError))
    ∧ (∃ r' e, rxStep Config.P0 1 (start Config.P0 1).rx (.byte 0x7E) = .ok (r', e))
    ∧ ∃ r' es, rxRun Config.P0 0 (start Config.P0 0).rx (byteInputs [0x7E, 0, 0, 0x7E]) = .ok (r', es) :=
  ⟨by decide, ⟨_, rfl⟩, ⟨_, rfl⟩, ⟨_, _, rfl⟩, ⟨_, _, rfl⟩⟩

theorem witness_RxNIsReadAtTheLengthOnly :
    midRx.cfg.wf = true ∧ midRx.rx.state ≠ .readLength
    ∧ ∃ t, exec (rxRow midRx.rx.state (.byte 0x2A)) midRx = .next t :=
  ⟨by decide, by decide, _, rfl⟩

/-- A `Drop`; a `RESET`; and two cleared receivers whose buffers differ, in each of the two states. -/
theorem witness_NothingLeaksBetweenFrames :
    Config.P0.wf = true ∧ (∃ r', rxStep Config.P0 3 midRx.rx .timeout = .ok (r', .drop .timeout))
    ∧ (∃ t, exec .reset midRx = .next t)
    ∧ (rxAt Config.P0 3 .waitStart 0 0 0 0 [(0, 9)]).rx.isCleared Config.P0
    ∧ (rxAt Config.P0 3 .waitStart 0 0 0 0 []).rx.isCleared Config.P0
    ∧ (rxAt Config.P0 3 .readLength 0 0 0 0 [(0, 9)]).rx.isCleared Config.P0 :=
  ⟨by decide, ⟨_, rfl⟩, ⟨_, rfl⟩, ⟨rfl, rfl, rfl, rfl⟩, ⟨rfl, rfl, rfl, rfl⟩, ⟨rfl, rfl, rfl, rfl⟩⟩

theorem witness_FillIsInvisible :
    Config.P0.wf = true ∧ (start Config.P0 3).rx.state = .waitStart
    ∧ ∀ u ∈ [RxInput.timeout, .byte 0x7D], u = .timeout ∨ ∃ b, u = .byte b ∧ b ≠ Config.P0.start := by
  refine ⟨by decide, rfl, fun u hu => ?_⟩
  rcases List.mem_cons.mp hu with rfl | hu
  · exact .inl rfl
  · exact .inr ⟨0x7D, by simpa using hu, by decide⟩

/-- The longest payload, every byte and the checksum reserved or not. -/
theorem witness_FramesHoldNoRawMarker :
    small.wf = true ∧ [(0x7E : Byte), 0x7D].length = small.maxPayload ∧ ([] : List Byte).length ≤ small.maxPayload := by
  decide

theorem witness_MachineEmitsTheFrame :
    ∃ s : State, s.cfg.wf = true ∧ s.tx.state = .idle ∧ [(0x7E : Byte)].length ≤ s.cfg.maxPayload
    ∧ s.pending = .tx (.send [0x7E]) :: (List.replicate (frameOf s.cfg [0x7E]).length (.tx .take) ++ [])
    ∧ (frameOf s.cfg [0x7E]).length = 7 ∧ ∃ t, exec (.txSend [0x7E]) s = .next t :=
  ⟨{ start Config.P0 0 with pending := .tx (.send [0x7E]) :: List.replicate 7 (.tx .take) },
    by decide, rfl, by decide, by decide, by decide, _, rfl⟩

/-- T2, first byte of it escaped. -/
theorem witness_ReceivingAFrameGivesItsPayload :
    ∃ s : State, s.cfg.wf = true ∧ [(0x7E : Byte), 0x01].length ≤ s.cfg.maxPayload
    ∧ s.rxN.toNat = [(0x7E : Byte), 0x01].length ∧ s.rx.state = .waitStart
    ∧ s.pending = (frameOf s.cfg [0x7E, 0x01]).map (fun b => .rx (.byte b)) ++ [.tx .take] :=
  ⟨{ start Config.P0 2 with
      pending := [.rx (.byte 0x7E), .rx (.byte 0x02), .rx (.byte 0x7D), .rx (.byte 0x5E), .rx (.byte 0x01),
        .rx (.byte 0x7F), .rx (.byte 0x7E), .tx .take] },
    by decide, by decide, by decide, rfl, by decide⟩

/-- T4 (a): a frame with its payload and its checksum escaped, and what a receiver makes of it. -/
theorem witness_OnlyFramesAreAccepted :
    Config.P0.wf = true ∧ (start Config.P0 1).rx.state = .waitStart
    ∧ [(0x7E : Byte), 0x01, 0x7D, 0x5E, 0x7D, 0x5E, 0x7E].head? = some Config.P0.start
    ∧ runSeen (rxRun Config.P0 1 (start Config.P0 1).rx (byteInputs [0x7E, 0x01, 0x7D, 0x5E, 0x7D, 0x5E, 0x7E]))
      = some (.waitStart, List.replicate 6 .none ++ [.frameOk [0x7E]])
    ∧ encodeFrame Config.P0 [0x7E] = .ok [0x7E, 0x01, 0x7D, 0x5E, 0x7D, 0x5E, 0x7E] := by decide

/-- S4: garbage without `START`; garbage that opens a frame; the two cases left out; garbage with a frame in it. -/
theorem witness_ResynchronisesAfterGarbage :
    Config.P0.wf = true ∧ (start Config.P0 3).rx.state = .waitStart ∧ (3 : Byte).toNat ≤ Config.P0.maxPayload
    ∧ [(0x01 : Byte), 0x2A, 0x00].length = (3 : Byte).toNat
    ∧ (∀ b ∈ [(0x00 : Byte), 0xFF, 0x7D, 0x5E, 0x03, 0x2B], b ≠ Config.P0.start)
    ∧ runSeen (rxRun Config.P0 3 (start Config.P0 3).rx (byteInputs [0x11, 0x7E, 0x03, 0x09]))
      = some (.readPayload, [.none, .none, .none, .none])
    ∧ runSeen (rxRun Config.P0 3 (start Config.P0 3).rx (byteInputs [0x5E, 0x7D, 0x7E, 0x03, 0x03, 0x81, 0x5E, 0x81]))
      = some (.expectStop, List.replicate 8 .none)
    ∧ runSeen (rxRun Config.P0 0 (start Config.P0 0).rx (byteInputs [0x11, 0x7E, 0x00, 0x00, 0x7E]))
      = some (.waitStart, List.replicate 4 .none ++ [.frameOk []]) := by decide

theorem witness_RecoversAfterTimeout :
    midRx.cfg.wf = true ∧ RxInv midRx.cfg midRx.rx ∧ [(0x01 : Byte), 0x2A, 0x00].length = (3 : Byte).toNat
    ∧ (3 : Byte).toNat ≤ midRx.cfg.maxPayload :=
  ⟨by decide, midRx_rxInv, rfl, by decide⟩

/-- S6; one above the maximum, the maximum, and a size that is `START`. -/
theorem witness_WrongSizeStoresNothing :
    Config.P0.wf = true ∧ (start Config.P0 3).rx.state = .waitStart ∧ (0x02 : Byte) ≠ 3
    ∧ (0xFF : Byte).toNat = Config.P0.maxPayload + 1 ∧ (0xFE : Byte).toNat = Config.P0.maxPayload
    ∧ (0x7E : Byte) = Config.P0.start ∧ ∀ b ∈ [(0x5E : Byte), 0x5D, 0x03], b ≠ Config.P0.start := by decide

/-- S3: the first byte of the payload field and the last of the checksum field. -/
theorem witness_SingleBitDamageIsRejected :
    Config.P0.wf = true ∧ (start Config.P0 1).rx.state = .waitStart ∧ [(0x7E : Byte)].length = (1 : Byte).toNat
    ∧ frameOf Config.P0 [0x7E] = [0x7E, 0x01] ++ [0x7D] ++ [0x5E, 0x7D, 0x5E, 0x7E]
    ∧ frameOf Config.P0 [0x7E] = [0x7E, 0x01, 0x7D, 0x5E, 0x7D] ++ [0x5E] ++ [0x7E] := by decide

/-- The size in flight equal to `RX_N`, and below an `RX_N` raised to 4. -/
theorem witness_ParserNeverHangs :
    midRx.cfg.wf = true ∧ RxInv midRx.cfg midRx.rx ∧ midRx.rx.len.toNat = (3 : Byte).toNat
    ∧ midRx.rx.len.toNat ≤ (4 : Byte).toNat
    ∧ (List.replicate 11 (0x01 : Byte)).length = 2 * (3 : Byte).toNat + 5
    ∧ (List.replicate 13 (0x01 : Byte)).length = 2 * (4 : Byte).toNat + 5 :=
  ⟨by decide, midRx_rxInv, rfl, by decide, rfl, rfl⟩

theorem witness_ReceiveCallReturnsThePayload :
    Config.P0.wf = true ∧ (start Config.P0 0).rx.state = .waitStart ∧ ([] : List Byte).length = (0 : Byte).toNat
    ∧ (start small 2).rx.state = .waitStart ∧ [(1 : Byte), 2].length = (2 : Byte).toNat
    ∧ (2 : Byte).toNat = small.maxPayload := by decide

/-- Two states that differ in a buffer only, and the last cause with a code of at most 6. -/
theorem witness_StatusShowsTheRegisters :
    (rxAt Config.P0 3 .readPayload 3 1 1 0 [(0, 0x01)]).status = (rxAt Config.P0 3 .readPayload 3 1 1 0 []).status
    ∧ Cause.checksumError.code = 6 := by decide

end Sys2Proof.Tests
end

section
/-! Proofs about the scope of the core (00_scope.md): which configurations are well formed, who may write what, and that
the inputs of the core always complete. First what the rows of each format are, and when a step faults. -/

open Sys2Proof Sys2Proof.Machine Sys2Proof.Claims

namespace Sys2Proof

/-! ### Well-formed configurations (00_scope.md R11) -/

/-- Item 4: the Boolean test of bit 0 is a condition on `POLY` as a number. -/
theorem CkAlg.wf_iff (k : CkAlg) : k.wf = true ↔ ∀ poly init, k = .crc8 poly init → poly.toNat % 2 = 1 := by
  cases k with
  | xor8 => simp [CkAlg.wf]
  | add8 => simp [CkAlg.wf]
  | crc8 poly init => simp [CkAlg.wf, BitVec.getLsbD, Nat.testBit_zero]

/-- Item 2: the three tests of the escaped forms say it of every reserved value. -/
theorem Config.escapes_unreserved_iff (c : Config) :
    (c.isReserved (c.enc c.start) = false ∧ c.isReserved (c.enc c.stop) = false ∧ c.isReserved (c.enc c.esc) = false)
      ↔ ∀ r, Reserved c r → ¬ Reserved c (r ^^^ c.escXor) := by
  simp only [← isReserved_iff_reserved, Bool.not_eq_true]
  constructor
  · rintro ⟨hstart, hstop, hesc⟩ r hr
    rcases (c.isReserved_iff r).mp hr with rfl | rfl | rfl
    · exact hstart
    · exact hstop
    · exact hesc
  · intro h
    exact ⟨h _ c.isReserved_start, h _ c.isReserved_stop, h _ c.isReserved_esc⟩

theorem Config.wf_iff (c : Config) :
    c.wf = true ↔ (c.esc ≠ c.start ∧ c.esc ≠ c.stop)
      ∧ (∀ r, Reserved c r → ¬ Reserved c (r ^^^ c.escXor))
      ∧ c.maxPayload ≤ 255
      ∧ ∀ poly init, c.ckAlg = .crc8 poly init → poly.toNat % 2 = 1 := by
  rw [← c.escapes_unreserved_iff, ← CkAlg.wf_iff]
  simp only [Config.wf, Bool.and_eq_true, bne_iff_ne, Bool.not_eq_true', decide_eq_true_eq, and_assoc]

/-! ### The rows of each format -/

@[simp] theorem rxRow_format (q : RxState) (u : RxInput) : (rxRow q u).format = .rxin := by
  cases u with
  | byte b => cases q <;> rfl
  | timeout => rfl
  | ioError => rfl

@[simp] theorem txRow_format (q : TxState) (w : TxInput) : (txRow q w).format = .txin := by
  cases w with
  | send p => rfl
  | take => cases q <;> rfl
  | writeError => rfl

@[simp] theorem wireRow_format (x : Context) (b : Byte) : (wireRow x b).format = .wire := by
  unfold wireRow
  repeat' split
  all_goals rfl

/-- The rows of RXIN are the inputs of RX, and the unused kind. -/
theorem Instr.eq_rxRow_or_reserved {i : Instr} (h : i.format = .rxin) :
    (∃ q u, i = rxRow q u) ∨ ∃ low, i = .rxReserved3 low := by
  cases i <;> simp only [Instr.format, reduceCtorEq] at h
  case rxByteWaitStart b => exact .inl ⟨.waitStart, .byte b, rfl⟩
  case rxByteReadLength b => exact .inl ⟨.readLength, .byte b, rfl⟩
  case rxByteReadPayload b => exact .inl ⟨.readPayload, .byte b, rfl⟩
  case rxByteReadEscapedByte b => exact .inl ⟨.readEscapedByte, .byte b, rfl⟩
  case rxByteReadChecksum b => exact .inl ⟨.readChecksum, .byte b, rfl⟩
  case rxByteReadEscapedChecksum b => exact .inl ⟨.readEscapedChecksum, .byte b, rfl⟩
  case rxByteExpectStop b => exact .inl ⟨.expectStop, .byte b, rfl⟩
  case rxTimeout => exact .inl ⟨.waitStart, .timeout, rfl⟩
  case rxIoerr => exact .inl ⟨.waitStart, .ioError, rfl⟩
  case rxReserved3 low => exact .inr ⟨low, rfl⟩

/-- The rows of TXIN are the inputs of TX, and the unused kind. -/
theorem Instr.eq_txRow_or_reserved {i : Instr} (h : i.format = .txin) :
    (∃ q w, i = txRow q w) ∨ i = .txReserved3 := by
  cases i <;> simp only [Instr.format, reduceCtorEq] at h
  case txTakeIdle => exact .inl ⟨.idle, .take, rfl⟩
  case txTakeEmitStart => exact .inl ⟨.emitStart, .take, rfl⟩
  case txTakeEmitLen => exact .inl ⟨.emitLen, .take, rfl⟩
  case txTakeEmitData => exact .inl ⟨.emitData, .take, rfl⟩
  case txTakeEmitDataEsc2 => exact .inl ⟨.emitDataEsc2, .take, rfl⟩
  case txTakeEmitCk => exact .inl ⟨.emitCk, .take, rfl⟩
  case txTakeEmitCkEsc2 => exact .inl ⟨.emitCkEsc2, .take, rfl⟩
  case txTakeEmitStop => exact .inl ⟨.emitStop, .take, rfl⟩
  case txSend p => exact .inl ⟨.idle, .send p, rfl⟩
  case txWerr => exact .inl ⟨.idle, .writeError, rfl⟩
  case txReserved3 => exact .inr rfl

theorem Instr.encode_of_wire {i : Instr} (h : i.format = .wire) (c : Config) : ∃ b, encode c i = some (.wire b) := by
  cases i <;> simp only [Instr.format, reduceCtorEq] at h <;> exact ⟨_, rfl⟩

theorem decodeRxin_format {q : RxState} {w : BitVec 10} {i : Instr} (h : decodeRxin q w = .ok i) :
    i.format = .rxin := by
  unfold decodeRxin at h
  repeat' split at h
  all_goals cases h
  case isFalse.isTrue => rfl
  all_goals exact rxRow_format ..

theorem decodeTxin_format {q : TxState} {w : BitVec 2} {p : List Byte} {i : Instr} (h : decodeTxin q w p = .ok i) :
    i.format = .txin := by
  unfold decodeTxin at h
  repeat' split at h
  all_goals cases h
  case isFalse.isFalse.isFalse.isFalse => rfl
  all_goals exact txRow_format ..

/-- What the environment may give is never a procedure of RX or TX on its own. -/
theorem Input.row_format_ne_internal {x : Context} {w : Input} {i : Instr} (hw : w.isInterface = true)
    (hi : w.row x = .ok i) : i.format ≠ .internal := by
  cases w with
  | rx u => cases hi; simp
  | tx u => cases hi; simp
  | call j => cases hi; simpa [Input.isInterface] using hw
  | code d =>
    cases d with
    | wire b => cases hi; simp
    | rxin w => simp [decodeRxin_format hi]
    | txin w p => simp [decodeTxin_format hi]
    | other n w => cases hi

end Sys2Proof

namespace Sys2Proof.Machine

/-! ### When a step of an agent faults (20_memory.md R32, R36) -/

theorem RxRegs.store_error {c : Config} {r : RxRegs} {v : Byte} {f : Fault} (h : r.store c v = .error f) :
    c.maxPayload ≤ r.idx.toNat := by
  by_contra hlt
  cases h.symm.trans (RxRegs.store_ok.mpr ⟨Nat.lt_of_not_le hlt, rfl, rfl⟩)

theorem RxRegs.done_error {c : Config} {r : RxRegs} {f : Fault} (h : r.done c = .error f) :
    c.maxPayload < r.len.toNat := by
  by_contra hle
  cases h.symm.trans (RxRegs.done_ok.mpr ⟨Nat.le_of_not_lt hle, rfl, rfl⟩)

theorem TxRegs.current_error {c : Config} {t : TxRegs} {f : Fault} (h : t.current c = .error f) :
    c.maxPayload ≤ t.idx.toNat := by
  by_contra hlt
  cases h.symm.trans (TxRegs.current_ok.mpr ⟨Nat.lt_of_not_le hlt, rfl⟩)

/-- RX faults only where it stores, or reads the payload out, beyond the buffer's last element. -/
theorem rxByte_error {c : Config} {n : Byte} {r : RxRegs} {b : Byte} {f : Fault} (h : rxByte c n r b = .error f) :
    ((r.state = .readPayload ∨ r.state = .readEscapedByte) ∧ c.maxPayload ≤ r.idx.toNat)
    ∨ (r.state = .expectStop ∧ c.maxPayload < r.len.toNat) := by
  unfold rxByte at h
  cases hs : r.state <;> simp only [hs] at h
  case waitStart => unfold rxWaitStart at h; split at h <;> cases h
  case readLength =>
    unfold rxReadLength at h
    repeat' split at h
    all_goals cases h
  case readPayload =>
    unfold rxReadPayload at h
    split at h
    · cases h
    · split at h
      · cases h
      · exact .inl ⟨.inl rfl, RxRegs.store_error h⟩
  case readEscapedByte =>
    unfold rxReadEscapedByte at h
    split at h
    · exact .inl ⟨.inr rfl, RxRegs.store_error h⟩
    · cases h
  case readChecksum =>
    unfold rxReadChecksum at h
    repeat' split at h
    all_goals cases h
  case readEscapedChecksum => unfold rxReadEscapedChecksum at h; split at h <;> cases h
  case expectStop =>
    unfold rxExpectStop rxJudge at h
    split at h
    · cases h
    · split at h
      · cases h
      · exact .inr ⟨rfl, RxRegs.done_error h⟩

theorem rxOnTimeout_ne_error (c : Config) (r : RxRegs) (f : Fault) : rxOnTimeout c r ≠ .error f := by
  unfold rxOnTimeout
  split <;> exact nofun

theorem rxStep_error {c : Config} {n : Byte} {r : RxRegs} {u : RxInput} {f : Fault} (h : rxStep c n r u = .error f) :
    ((r.state = .readPayload ∨ r.state = .readEscapedByte) ∧ c.maxPayload ≤ r.idx.toNat)
    ∨ (r.state = .expectStop ∧ c.maxPayload < r.len.toNat) := by
  cases u with
  | byte b => exact rxByte_error h
  | timeout => exact absurd h (rxOnTimeout_ne_error c r f)
  | ioError => cases h

/-- TX faults only where it reads the payload beyond the buffer's last element. -/
theorem txTake_error {c : Config} {t : TxRegs} {f : Fault} (h : txTake c t = .error f) :
    (t.state = .emitData ∨ t.state = .emitDataEsc2) ∧ c.maxPayload ≤ t.idx.toNat := by
  unfold txTake at h
  cases hs : t.state <;> simp only [hs] at h
  case emitData =>
    unfold txEmitData at h
    split at h
    · cases h
    · rename_i hcur
      exact ⟨.inl rfl, TxRegs.current_error hcur⟩
  case emitDataEsc2 =>
    unfold txEmitDataEsc2 at h
    split at h
    · cases h
    · rename_i hcur
      exact ⟨.inr rfl, TxRegs.current_error hcur⟩
  case emitCk => unfold txEmitCk at h; split at h <;> cases h
  all_goals cases h

theorem txOnSend_ne_error (c : Config) (t : TxRegs) (p : List Byte) (f : Fault) : txOnSend c t p ≠ .error f := by
  unfold txOnSend
  split
  · exact nofun
  · split <;> exact nofun

theorem txOnWriteError_ne_error (t : TxRegs) (f : Fault) : txOnWriteError t ≠ .error f := by
  unfold txOnWriteError
  split <;> exact nofun

theorem txStep_error {c : Config} {t : TxRegs} {w : TxInput} {f : Fault} (h : txStep c t w = .error f) :
    (t.state = .emitData ∨ t.state = .emitDataEsc2) ∧ c.maxPayload ≤ t.idx.toNat := by
  cases w with
  | send p => exact absurd h (txOnSend_ne_error c t p f)
  | take => exact txTake_error h
  | writeError => exact absurd h (txOnWriteError_ne_error t f)

/-- Under the invariant every step of RX answers (20_memory.md R36). -/
theorem RxInv.rxStep_ok {c : Config} {r : RxRegs} (h : RxInv c r) (n : Byte) (u : RxInput) :
    ∃ r' e, rxStep c n r u = .ok (r', e) := by
  cases hx : rxStep c n r u with
  | ok o => exact ⟨o.1, o.2, rfl⟩
  | error f =>
    obtain ⟨-, hinv⟩ := h
    rcases rxStep_error hx with ⟨hs | hs, hidx⟩ | ⟨hs, hlen⟩ <;> rw [hs] at hinv
    · obtain ⟨-, hle, hlt, -⟩ := hinv
      omega
    · obtain ⟨-, hle, hlt, -⟩ := hinv
      omega
    · obtain ⟨hle, -⟩ := hinv
      omega

/-- Under the invariant every step of TX answers (20_memory.md R36). -/
theorem TxInv.txStep_ok {c : Config} {t : TxRegs} (h : TxInv c t) (w : TxInput) : ∃ o, txStep c t w = .ok o := by
  cases hx : txStep c t w with
  | ok o => exact ⟨o, rfl⟩
  | error f =>
    obtain ⟨-, hinv⟩ := h
    obtain ⟨hs | hs, hidx⟩ := txStep_error hx <;> rw [hs] at hinv
    · obtain ⟨⟨hle, -⟩, hlt⟩ := hinv
      omega
    · obtain ⟨⟨hle, -⟩, hlt, -⟩ := hinv
      omega

/-! ### When an instruction answers a next state -/

theorem exec_wire_next {i : Instr} {s : State} (hf : i.format = .wire) (h : RxInv s.cfg s.rx) :
    ∃ t, exec i s = .next t := by
  obtain ⟨b, hb⟩ := Instr.encode_of_wire hf s.cfg
  obtain ⟨r, e, hx⟩ := h.rxStep_ok s.rxN (.byte b)
  exact ⟨_, (exec_wire_eq_consume hb).trans (State.stepRx_next.mpr ⟨r, e, hx, rfl⟩)⟩

theorem exec_rxRow_next {s : State} (h : RxInv s.cfg s.rx) (q : RxState) (u : RxInput) :
    ∃ t, exec (rxRow q u) s = .next t := by
  obtain ⟨r, e, hx⟩ := h.rxStep_ok s.rxN u
  exact ⟨_, (exec_rxRow q u s).trans (State.stepRx_next.mpr ⟨r, e, hx, rfl⟩)⟩

theorem exec_txRow_next {s : State} (h : TxInv s.cfg s.tx) (q : TxState) (w : TxInput) :
    ∃ t, exec (txRow q w) s = .next t := by
  obtain ⟨o, hx⟩ := h.txStep_ok w
  exact ⟨_, (exec_txRow q w s).trans (State.stepTx_next.mpr ⟨o, hx, rfl⟩)⟩

theorem exec_host_next {i : Instr} (s : State) (hf : i.format = .host) : ∃ t, exec i s = .next t := by
  cases i <;> simp only [Instr.format, reduceCtorEq] at hf <;> exact ⟨_, rfl⟩

theorem exec_pseudo_next {i : Instr} (s : State) (hf : i.format = .pseudo) : ∃ t, exec i s = .next t := by
  cases i <;> simp only [Instr.format, reduceCtorEq] at hf
  case frame p =>
    show ∃ t, execFrame p s = .next t
    unfold execFrame
    split <;> exact ⟨_, rfl⟩
  case takeN n => exact ⟨_, rfl⟩
  case sendAll p => exact ⟨_, rfl⟩

/-- Under the invariants of the two agents no row of the interface faults. -/
theorem exec_ne_fault {i : Instr} {s : State} (hf : i.format ≠ .internal) (hrx : RxInv s.cfg s.rx)
    (htx : TxInv s.cfg s.tx) (f : Fault) : exec i s ≠ .fault f := by
  have ne_fault : (∃ t, exec i s = .next t) → exec i s ≠ .fault f := by
    rintro ⟨t, ht⟩ h
    cases ht.symm.trans h
  cases hi : i.format with
  | wire => exact ne_fault (exec_wire_next hi hrx)
  | rxin =>
    rcases Instr.eq_rxRow_or_reserved hi with ⟨q, u, rfl⟩ | ⟨low, rfl⟩
    · exact ne_fault (exec_rxRow_next hrx q u)
    · exact nofun
  | txin =>
    rcases Instr.eq_txRow_or_reserved hi with ⟨q, w, rfl⟩ | rfl
    · exact ne_fault (exec_txRow_next htx q w)
    · exact nofun
  | host => exact ne_fault (exec_host_next s hi)
  | internal => exact absurd hi hf
  | pseudo => exact ne_fault (exec_pseudo_next s hi)

/-! ### The step, by what is pending -/

theorem step_of_wf_false {s : State} (h : s.cfg.wf = false) : step s = .refused .configNotWellFormed := by
  simp [step, h]

theorem step_of_pending_nil {s : State} (hc : s.cfg.wf = true) (hp : s.pending = []) : step s = .next s.quiet := by
  simp [step, State.fetch, hc, hp]

theorem step_of_row {s : State} {w : Input} {rest : List Input} {i : Instr} (hc : s.cfg.wf = true)
    (hp : s.pending = w :: rest) (hi : w.row s.context = .ok i) : step s = exec i (s.taken rest) := by
  simp [step, State.fetch, hc, hp, hi]

theorem step_of_undecodable {s : State} {w : Input} {rest : List Input} {e : DecodeError} (hc : s.cfg.wf = true)
    (hp : s.pending = w :: rest) (he : w.row s.context = .error e) : step s = .refused (.undecodable e) := by
  simp [step, State.fetch, hc, hp, he]

theorem Inv.step_ne_fault {s : State} (h : Inv s) (f : Fault) : step s ≠ .fault f := by
  cases hp : s.pending with
  | nil => rw [step_of_pending_nil h.cfg hp]; exact nofun
  | cons w rest =>
    cases hi : w.row s.context with
    | error e => rw [step_of_undecodable h.cfg hp hi]; exact nofun
    | ok i =>
      have hw : w.isInterface = true := h.pending w (by simp [hp])
      rw [step_of_row h.cfg hp hi]
      exact exec_ne_fault (s := s.taken rest) (Input.row_format_ne_internal hw hi) h.rx h.tx f

/-- Settles O43: RX and TX fault only at an index or a length beyond the buffer, which their invariants exclude. -/
theorem inputsAlwaysComplete : Obligations.InputsAlwaysComplete := by
  intro s h
  refine ⟨h.step_ne_fault, ?_⟩
  rintro (⟨u, rest, hp⟩ | ⟨w, rest, hp⟩ | ⟨n, rest, hp⟩ | ⟨rest, hp⟩) <;> rw [step_of_row h.cfg hp rfl]
  · exact exec_rxRow_next (s := s.taken rest) h.rx _ u
  · exact exec_txRow_next (s := s.taken rest) h.tx _ w
  · exact exec_host_next _ rfl
  · exact exec_host_next _ rfl

/-! ### What a step of an agent does to its buffer -/

/-- RX writes its buffer by `store` alone, from the two states of the payload field (20_memory.md R34). -/
theorem rxByte_read {c : Config} {n : Byte} {r r' : RxRegs} {b : Byte} {e : RxEvent}
    (h : rxByte c n r b = .ok (r', e)) :
    (∀ a, r'.read a = r.read a)
    ∨ ((r.state = .readPayload ∨ r.state = .readEscapedByte) ∧ ∃ v, r' = r.stored c v) := by
  rcases rxByte_cases h with ⟨-, -, rfl, -⟩ | ⟨-, -, rfl, -⟩ | ⟨-, -, -, rfl, -⟩ | ⟨-, -, rfl, -⟩
    | ⟨hs, -, -, rfl, -⟩ | ⟨hs, -, -, rfl, -⟩ | ⟨-, -, rfl, -⟩ | ⟨-, -, rfl, -⟩ | ⟨-, -, rfl, -⟩
    | ⟨-, -, -, rfl, -⟩ | ⟨-, -, -, -, rfl, -⟩ | ⟨-, rfl, -⟩
  · exact .inl fun _ => rfl
  · exact .inl fun _ => rfl
  · exact .inl fun _ => rfl
  · exact .inl fun _ => rfl
  · exact .inr ⟨.inl hs, b, rfl⟩
  · exact .inr ⟨.inr hs, c.dec b, rfl⟩
  · exact .inl fun _ => rfl
  · exact .inl fun _ => rfl
  · exact .inl fun _ => rfl
  · exact .inl fun _ => rfl
  · exact .inl fun _ => rfl
  · exact .inl (RxRegs.read_restart c r b)

theorem rxOnTimeout_read {c : Config} {r r' : RxRegs} {e : RxEvent} (h : rxOnTimeout c r = .ok (r', e)) (a : Nat) :
    r'.read a = r.read a := by
  unfold rxOnTimeout at h
  split at h <;> cases h <;> rfl

theorem rxOnIoError_read {c : Config} {r r' : RxRegs} {e : RxEvent} (h : rxOnIoError c r = .ok (r', e)) (a : Nat) :
    r'.read a = r.read a := by
  cases h
  rfl

theorem txTake_read {c : Config} {t : TxRegs} {o : TxOut} (h : txTake c t = .ok o) (a : Nat) :
    o.regs.read a = t.read a := by
  rcases txTake_cases h with ⟨-, rfl⟩ | ⟨-, rfl⟩ | ⟨-, rfl⟩ | ⟨-, -, -, rfl⟩ | ⟨-, -, -, rfl⟩ | ⟨-, -, rfl⟩
    | ⟨-, -, rfl⟩ | ⟨-, -, rfl⟩ | ⟨-, rfl⟩ | ⟨-, rfl⟩ <;> rfl

theorem txOnWriteError_read {t : TxRegs} {o : TxOut} (h : txOnWriteError t = .ok o) (a : Nat) :
    o.regs.read a = t.read a := by
  unfold txOnWriteError at h
  split at h <;> cases h <;> rfl

/-! ### What an instruction writes -/

/-- What `i` may make of the buffer of RX, left in `r`: nothing, or the write of `store`, which a row that stores nothing
does not run. -/
def RxWrites (s : State) (i : Instr) (r : RxRegs) : Prop :=
  (∀ a, r.read a = s.rx.read a) ∨ (¬ StoresNothing s i ∧ ∃ v, r = s.rx.stored s.cfg v)

/-- The next state of an instruction, by which part of the machine it belongs to. Each case says which formats' rows it
is of. -/
inductive Writes (s : State) (i : Instr) : State → Prop
  | rx {r : RxRegs} {e : RxEvent} (format : i.format = .wire ∨ i.format = .rxin ∨ i.format = .internal)
      (buffer : RxWrites s i r) : Writes s i (s.withRx r e)
  | tx {o : TxOut} (format : i.format = .txin ∨ i.format = .internal ∧ o.emitted = none)
      (buffer : (∀ a, o.regs.read a = s.tx.read a) ∨ ∃ p, i = .txSend p) : Writes s i (s.withTx o)
  | result {v : OpResult} (format : i.format = .host ∨ i.format = .internal ∨ i.format = .pseudo) :
      Writes s i (s.withResult v)
  | expansion {is : List Input} (format : i.format = .pseudo) : Writes s i (s.withExpansion is)
  | setn {n : Byte} (instr : i = .cfgSetn n) : Writes s i { s.quiet with rxN := n }
  | reset (instr : i = .reset) : Writes s i { s.quiet with
      rx := RxRegs.reset s.cfg (s.rx.epoch + 1)
      tx := TxRegs.reset s.cfg (s.tx.epoch + 1)
      rxN := 0 }

/-- A wire byte where RX stores is no row that stores nothing. -/
theorem not_storesNothing {s : State} {i : Instr} (hf : i.format = .wire ∨ ∃ q b, i = rxRow q (.byte b))
    (hs : s.rx.state = .readPayload ∨ s.rx.state = .readEscapedByte) : ¬ StoresNothing s i := by
  have hi : (i.format = .wire ∨ i.format = .rxin) ∧ i ≠ .rxTimeout ∧ i ≠ .rxIoerr := by
    rcases hf with hf | ⟨q, b, rfl⟩
    · exact ⟨.inl hf, fun h => (by simp [h, Instr.format] at hf), fun h => (by simp [h, Instr.format] at hf)⟩
    · exact ⟨.inr (rxRow_format ..), by cases q <;> exact nofun, by cases q <;> exact nofun⟩
  obtain ⟨hfmt, htimeout, hioerr⟩ := hi
  rintro ⟨-, ⟨hwire, hrxin⟩ | h | h | ⟨hpay, hescd⟩⟩
  · exact hfmt.elim hwire hrxin
  · exact htimeout h
  · exact hioerr h
  · exact hs.elim hpay hescd

theorem writes_of_rxByte {s : State} {i : Instr} {b : Byte} {r : RxRegs} {e : RxEvent}
    (hf : i.format = .wire ∨ ∃ q b, i = rxRow q (.byte b)) (h : rxByte s.cfg s.rxN s.rx b = .ok (r, e)) :
    Writes s i (s.withRx r e) :=
  .rx (hf.imp id fun ⟨q, _, hi⟩ => .inl (hi ▸ rxRow_format q _))
    ((rxByte_read h).imp id fun ⟨hs, hv⟩ => ⟨not_storesNothing hf hs, hv⟩)

theorem writes_of_wire {s t : State} {i : Instr} (hf : i.format = .wire) (h : exec i s = .next t) : Writes s i t := by
  obtain ⟨b, hb⟩ := Instr.encode_of_wire hf s.cfg
  rw [exec_wire_eq_consume hb] at h
  obtain ⟨r, e, hx, rfl⟩ := State.stepRx_next.mp h
  exact writes_of_rxByte (.inl hf) hx

theorem writes_of_rxRow {s t : State} {q : RxState} {u : RxInput} (h : exec (rxRow q u) s = .next t) :
    Writes s (rxRow q u) t := by
  rw [exec_rxRow] at h
  obtain ⟨r, e, hx, rfl⟩ := State.stepRx_next.mp h
  have hf : (rxRow q u).format = .rxin := rxRow_format q u
  cases u with
  | byte b => exact writes_of_rxByte (.inr ⟨q, b, rfl⟩) hx
  | timeout => exact .rx (.inr (.inl hf)) (.inl (rxOnTimeout_read hx))
  | ioError => exact .rx (.inr (.inl hf)) (.inl (rxOnIoError_read hx))

theorem writes_of_txRow {s t : State} {q : TxState} {w : TxInput} (h : exec (txRow q w) s = .next t) :
    Writes s (txRow q w) t := by
  rw [exec_txRow] at h
  obtain ⟨o, hx, rfl⟩ := State.stepTx_next.mp h
  have hf : (txRow q w).format = .txin := txRow_format q w
  cases w with
  | send p => exact .tx (.inl hf) (.inr ⟨p, rfl⟩)
  | take => exact .tx (.inl hf) (.inl (txTake_read hx))
  | writeError => exact .tx (.inl hf) (.inl (txOnWriteError_read hx))

theorem writes_of_host {s t : State} {i : Instr} (hf : i.format = .host) (h : exec i s = .next t) : Writes s i t := by
  cases i <;> simp only [Instr.format, reduceCtorEq] at hf <;> cases h
  case cfgSetn n => exact .setn rfl
  case reset => exact .reset rfl
  case encodeFrame p => exact .result (.inl rfl)

theorem writes_of_pseudo {s t : State} {i : Instr} (hf : i.format = .pseudo) (h : exec i s = .next t) :
    Writes s i t := by
  cases i <;> simp only [Instr.format, reduceCtorEq] at hf
  case frame p =>
    replace h : execFrame p s = .next t := h
    unfold execFrame at h
    split at h <;> cases h
    · exact .expansion rfl
    · exact .result (.inr (.inr rfl))
  case takeN n => cases h; exact .expansion rfl
  case sendAll p => cases h; exact .expansion rfl

/-- Writing an accumulator is a step of the agent it belongs to, which writes no buffer and emits nothing. -/
theorem writes_withAcc {s : State} {i : Instr} (hf : i.format = .internal) (a : Accumulator) (v : Byte) :
    Writes s i (s.withAcc a v) := by
  cases a with
  | rx => exact .rx (r := s.rx.setCk v) (e := .none) (.inr (.inr hf)) (.inl fun _ => rfl)
  | tx =>
    have htx : s.withAcc .tx v = s.withTx ⟨s.tx.setCk v, none, .none⟩ := by
      simp [State.withAcc, State.withTx, State.quiet]
    rw [htx]
    exact .tx (.inr ⟨hf, rfl⟩) (.inl fun _ => rfl)

theorem writes_of_internal {s t : State} {i : Instr} (hf : i.format = .internal) (h : exec i s = .next t) :
    Writes s i t := by
  cases i <;> simp only [Instr.format, reduceCtorEq] at hf
  case ckInit a => cases h; exact writes_withAcc rfl a _
  case ckUpdateXor8 a v => cases h; exact writes_withAcc rfl a _
  case ckUpdateAdd8 a v => cases h; exact writes_withAcc rfl a _
  case ckUpdateCrc8 a poly v => cases h; exact writes_withAcc rfl a _
  case crcBit poly a => cases h; exact .result (.inr (.inl rfl))
  case ckFold p => cases h; exact .result (.inr (.inl rfl))
  case clear => cases h; exact .rx (.inr (.inr rfl)) (.inl fun _ => rfl)
  case resync b cause => cases h; exact .rx (.inr (.inr rfl)) (.inl (RxRegs.read_restart s.cfg s.rx b))
  case store v =>
    obtain ⟨r, e, hx, rfl⟩ := State.stepRx_next.mp h
    obtain ⟨-, rfl, rfl⟩ := RxRegs.store_ok.mp hx
    exact .rx (.inr (.inr rfl)) (.inr ⟨fun hn => hn.1 v rfl, v, rfl⟩)
  case done =>
    obtain ⟨r, e, hx, rfl⟩ := State.stepRx_next.mp h
    obtain ⟨-, rfl, rfl⟩ := RxRegs.done_ok.mp hx
    exact .rx (.inr (.inr rfl)) (.inl fun _ => rfl)
  case advance => cases h; exact .tx (.inr ⟨rfl, rfl⟩) (.inl fun _ => rfl)

theorem writes_of_exec {s t : State} {i : Instr} (h : exec i s = .next t) : Writes s i t := by
  cases hf : i.format with
  | wire => exact writes_of_wire hf h
  | rxin =>
    rcases Instr.eq_rxRow_or_reserved hf with ⟨q, u, rfl⟩ | ⟨low, rfl⟩
    · exact writes_of_rxRow h
    · cases h
  | txin =>
    rcases Instr.eq_txRow_or_reserved hf with ⟨q, w, rfl⟩ | rfl
    · exact writes_of_txRow h
    · cases h
  | host => exact writes_of_host hf h
  | internal => exact writes_of_internal hf h
  | pseudo => exact writes_of_pseudo hf h

theorem RxWrites.read_other {s : State} {i : Instr} {r : RxRegs} (h : RxWrites s i r) {a : Nat}
    (ha : a ≠ s.rx.idx.toNat) : r.read a = s.rx.read a := by
  rcases h with h | ⟨-, v, rfl⟩
  · exact h a
  · exact RxRegs.read_stored_other _ _ v ha

theorem RxWrites.read_of_no_store {s : State} {i : Instr} {r : RxRegs} (h : RxWrites s i r)
    (hn : StoresNothing s i ∨ r.idx ≠ s.rx.idx + 1) (a : Nat) : r.read a = s.rx.read a := by
  rcases h with h | ⟨hstores, v, rfl⟩
  · exact h a
  · exact absurd rfl (hn.resolve_left hstores)

/-- Settles O44: each part of the machine writes its own registers and outputs, and the rows of a format belong to one
part. -/
theorem whoMayWriteWhat : Obligations.WhoMayWriteWhat := by
  intro i s t h
  cases writes_of_exec h with
  | rx format buffer =>
    refine ⟨rfl, fun _ _ => rfl, fun _ => ⟨rfl, rfl⟩, fun hf => ?_, fun _ _ _ => rfl, fun _ _ => buffer.read_other,
      fun _ => buffer.read_of_no_store, by simp, fun _ => rfl, fun _ => rfl⟩
    simp [hf] at format
  | tx format buffer =>
    refine ⟨rfl, fun _ _ => rfl, fun hf => ?_, fun _ => ⟨rfl, rfl⟩, fun hsend _ => ?_, fun _ _ _ => rfl,
      fun _ _ _ => rfl, rfl, fun hf => (format.resolve_left hf).2, fun _ => rfl⟩
    · rcases hf with hf | hf <;> simp [hf] at format
    · exact buffer.resolve_right fun ⟨p, hp⟩ => hsend p hp
  | result format =>
    exact ⟨rfl, fun _ _ => rfl, fun _ => ⟨rfl, rfl⟩, fun _ => ⟨rfl, rfl⟩, fun _ _ _ => rfl, fun _ _ _ => rfl,
      fun _ _ _ => rfl, by simp, fun _ => rfl, fun _ => rfl⟩
  | expansion format =>
    exact ⟨rfl, fun _ _ => rfl, fun _ => ⟨rfl, rfl⟩, fun _ => ⟨rfl, rfl⟩, fun _ _ _ => rfl, fun _ _ _ => rfl,
      fun _ _ _ => rfl, by simp, fun _ => rfl, fun hf => absurd format hf⟩
  | setn instr =>
    exact ⟨rfl, fun hn => absurd instr (hn _), fun _ => ⟨rfl, rfl⟩, fun _ => ⟨rfl, rfl⟩, fun _ _ _ => rfl,
      fun _ _ _ => rfl, fun _ _ _ => rfl, by simp, fun _ => rfl, fun _ => rfl⟩
  | reset instr =>
    subst instr
    exact ⟨rfl, fun _ hr => absurd rfl hr, (fun hf => by simp [Instr.format] at hf), nofun,
      fun _ hr => absurd rfl hr, fun hr => absurd rfl hr, fun hr => absurd rfl hr, by simp, fun _ => rfl, fun _ => rfl⟩

/-- Settles O40: `Config.wf` tests the four conditions of 00_scope.md R11, and `step` tests `Config.wf` first. -/
theorem illFormedConfigurationsAreRefused : Obligations.IllFormedConfigurationsAreRefused :=
  fun s => ⟨s.cfg.wf_iff, step_of_wf_false⟩

end Sys2Proof.Machine
end

section
/-! Proofs about the state (10_state.md): the reset values, the invariants of the two agents and of the machine and that
every step keeps them, that the agents are independent, what a step runs, and what the host reads of the registers. -/

open Sys2Proof Sys2Proof.Machine Sys2Proof.Claims

namespace Sys2Proof

theorem Config.ckFold_append_singleton (c : Config) (p : List Byte) (v : Byte) :
    c.ckFold (p ++ [v]) = c.ckStep (c.ckFold p) v := c.ckFoldFrom_append _ p [v]

/-- `not b > MAX_PAYLOAD`, as numbers. -/
theorem Config.toNat_le_of_exceedsMax_false {c : Config} {b : Byte} (h : c.exceedsMax b = false) :
    b.toNat ≤ c.maxPayload := by
  simpa [Config.exceedsMax] using h

theorem Cause.code_of_isStructural {cause : Cause} (h : cause.isStructural = true) :
    1 ≤ cause.code ∧ cause.code ≤ 8 := by
  cases cause <;> simp [Cause.isStructural, Cause.code] at h ⊢

end Sys2Proof

namespace Sys2Proof.Machine

theorem Memory.writtenUpTo_zero (m : Memory) : m.writtenUpTo 0 := fun _ hi => absurd hi (Nat.not_lt_zero _)

theorem Memory.writtenUpTo_writeFrom (m : Memory) (p : List Byte) : (m.writeFrom 0 p).writtenUpTo p.length := by
  intro i hi
  simp [Memory.read?_writeFrom, hi]

/-! ### The invariant of RX, by the rows of 10_state.md R23 -/

theorem RxInv.isCleared {c : Config} {r : RxRegs} (h : RxInv c r) (hs : r.state = .waitStart ∨ r.state = .readLength) :
    r.isCleared c := by
  obtain ⟨-, h⟩ := h
  rcases hs with hs | hs <;> rwa [hs] at h

theorem RxInv.isFilling {c : Config} {r : RxRegs} (h : RxInv c r)
    (hs : r.state = .readPayload ∨ r.state = .readEscapedByte) : r.isFilling c := by
  obtain ⟨-, h⟩ := h
  rcases hs with hs | hs <;> rwa [hs] at h

/-- In the checksum field the payload is complete, and no checksum byte is held yet. -/
theorem RxInv.isFull {c : Config} {r : RxRegs} (h : RxInv c r)
    (hs : r.state = .readChecksum ∨ r.state = .readEscapedChecksum) : r.isFull c ∧ r.ckrx = 0 := by
  obtain ⟨-, h⟩ := h
  rcases hs with hs | hs <;> rwa [hs] at h

theorem RxInv.of_isCleared {c : Config} {r : RxRegs} (hbuf : r.buf.fits c)
    (hs : r.state = .waitStart ∨ r.state = .readLength) (h : r.isCleared c) : RxInv c r := by
  refine ⟨hbuf, ?_⟩
  rcases hs with hs | hs <;> rwa [hs]

theorem RxInv.reset (c : Config) (epoch : Nat) : RxInv c (RxRegs.reset c epoch) :=
  .of_isCleared (Memory.empty_fits c) (.inl rfl) ⟨rfl, rfl, rfl, rfl⟩

theorem RxInv.clear {c : Config} {r : RxRegs} (hbuf : r.buf.fits c) : RxInv c (r.clear c) :=
  .of_isCleared hbuf (.inl rfl) ⟨rfl, rfl, rfl, rfl⟩

/-- Once cleared, RX may stand at the length position: `SOF`. -/
theorem RxInv.clear_readLength {c : Config} {r : RxRegs} (hbuf : r.buf.fits c) :
    RxInv c { r.clear c with state := .readLength } :=
  .of_isCleared hbuf (.inr rfl) ⟨rfl, rfl, rfl, rfl⟩

theorem RxInv.restart {c : Config} {r : RxRegs} (hbuf : r.buf.fits c) (b : Byte) : RxInv c (r.restart c b) := by
  unfold RxRegs.restart
  split
  · exact .clear_readLength hbuf
  · exact .clear hbuf

theorem RxInv.acceptLength {c : Config} {r : RxRegs} {b : Byte} (hbuf : r.buf.fits c) (hckrx : r.ckrx = 0)
    (hb : b.toNat ≤ c.maxPayload) : RxInv c (r.acceptLength c b) := by
  refine ⟨hbuf, ?_⟩
  by_cases hzero : b = 0
  · subst hzero
    exact ⟨⟨Nat.zero_le _, rfl, Memory.writtenUpTo_zero _, rfl⟩, hckrx⟩
  · have hpos : 0 < b.toNat := by bv_omega
    simp only [RxRegs.acceptLength_state, if_neg hzero]
    exact ⟨hpos, hb, hpos, Memory.writtenUpTo_zero _, rfl, hckrx⟩

/-- Storing one more byte of a payload in flight: it stays in flight, or it is complete. -/
theorem RxInv.stored {c : Config} {r : RxRegs} (hbuf : r.buf.fits c) (h : r.isFilling c) (v : Byte) :
    RxInv c (r.stored c v) := by
  obtain ⟨hpos, hle, hlt, hwritten, hck, hckrx⟩ := h
  have hidx : (r.idx + 1).toNat = r.idx.toNat + 1 := by bv_omega
  have hwritten' : (r.stored c v).buf.writtenUpTo (r.idx + 1).toNat :=
    hidx ▸ Memory.writtenUpTo_write_next hwritten v
  have hck' : (r.stored c v).ck = c.ckFold ((r.stored c v).readUpTo (r.idx + 1).toNat) := by
    rw [hidx, RxRegs.readUpTo_stored, c.ckFold_append_singleton, ← hck, RxRegs.stored_ck]
  refine ⟨Memory.write_fits hbuf (by omega) v, ?_⟩
  by_cases hlast : r.idx + 1 = r.len
  · simp only [RxRegs.stored_state, if_pos hlast]
    exact ⟨⟨hle, hlast, hlast ▸ hwritten', hlast ▸ hck'⟩, hckrx⟩
  · simp only [RxRegs.stored_state, if_neg hlast]
    have hlt' : (r.idx + 1).toNat < r.len.toNat := by bv_omega
    exact ⟨hpos, hle, hlt', hwritten', hck', hckrx⟩

theorem RxInv.holdChecksum {c : Config} {r : RxRegs} (hbuf : r.buf.fits c) (h : r.isFull c) (v : Byte) :
    RxInv c (r.holdChecksum v) := ⟨hbuf, h⟩

/-! ### Every step of RX keeps it -/

theorem rxByte_keeps_inv {c : Config} {n : Byte} {r r' : RxRegs} {b : Byte} {e : RxEvent} (h : RxInv c r)
    (hx : rxByte c n r b = .ok (r', e)) : RxInv c r' ∧ e.causeFits := by
  have hbuf : r.buf.fits c := h.1
  rcases rxByte_cases hx with ⟨-, -, rfl, rfl⟩ | ⟨-, -, rfl, rfl⟩ | ⟨hs, hmax, -, rfl, rfl⟩ | ⟨hs, -, rfl, rfl⟩
    | ⟨hs, -, -, rfl, rfl⟩ | ⟨hs, -, -, rfl, rfl⟩ | ⟨hs, -, rfl, rfl⟩ | ⟨hs, -, rfl, rfl⟩ | ⟨hs, -, rfl, rfl⟩
    | ⟨-, -, -, rfl, rfl⟩ | ⟨-, -, -, -, rfl, rfl⟩ | ⟨-, rfl, cause, hcause, rfl⟩
  · exact ⟨.clear_readLength hbuf, trivial⟩
  · exact ⟨h, trivial⟩
  · obtain ⟨-, -, -, hckrx⟩ := h.isCleared (.inr hs)
    exact ⟨.acceptLength hbuf hckrx (Config.toNat_le_of_exceedsMax_false hmax), trivial⟩
  · exact ⟨⟨hbuf, h.isFilling (.inl hs)⟩, trivial⟩
  · exact ⟨.stored hbuf (h.isFilling (.inl hs)) b, trivial⟩
  · exact ⟨.stored hbuf (h.isFilling (.inr hs)) (c.dec b), trivial⟩
  · exact ⟨⟨hbuf, h.isFull (.inl hs)⟩, trivial⟩
  · exact ⟨.holdChecksum hbuf (h.isFull (.inl hs)).1 b, trivial⟩
  · exact ⟨.holdChecksum hbuf (h.isFull (.inr hs)).1 (c.dec b), trivial⟩
  · exact ⟨.clear hbuf, by decide, by decide⟩
  · exact ⟨.clear hbuf, trivial⟩
  · exact ⟨.restart hbuf b, Cause.code_of_isStructural hcause⟩

theorem rxOnTimeout_keeps_inv {c : Config} {r r' : RxRegs} {e : RxEvent} (h : RxInv c r)
    (hx : rxOnTimeout c r = .ok (r', e)) : RxInv c r' ∧ e.causeFits := by
  unfold rxOnTimeout at hx
  split at hx <;> cases hx
  · exact ⟨h, trivial⟩
  · exact ⟨.clear h.1, by decide, by decide⟩

theorem rxOnIoError_keeps_inv {c : Config} {r r' : RxRegs} {e : RxEvent} (h : RxInv c r)
    (hx : rxOnIoError c r = .ok (r', e)) : RxInv c r' ∧ e.causeFits := by
  cases hx
  exact ⟨.clear h.1, by decide, by decide⟩

/-- The invariant of RX is kept by each of its inputs, and a `Drop` it raises has one of the causes 1 to 8. -/
theorem rxStep_keeps_inv {c : Config} {n : Byte} {r r' : RxRegs} {u : RxInput} {e : RxEvent} (h : RxInv c r)
    (hx : rxStep c n r u = .ok (r', e)) : RxInv c r' ∧ e.causeFits := by
  cases u with
  | byte b => exact rxByte_keeps_inv h hx
  | timeout => exact rxOnTimeout_keeps_inv h hx
  | ioError => exact rxOnIoError_keeps_inv h hx

/-! ### The invariant of TX, by the states of 10_state.md R27 -/

theorem TxInv.of_idle {c : Config} {t : TxRegs} (hbuf : t.buf.fits c) (hs : t.state = .idle) : TxInv c t := by
  refine ⟨hbuf, ?_⟩
  rw [hs]
  trivial

theorem TxInv.reset (c : Config) (epoch : Nat) : TxInv c (TxRegs.reset c epoch) :=
  .of_idle (Memory.empty_fits c) rfl

theorem TxInv.load {c : Config} {t : TxRegs} {p : List Byte} (hc : c.maxPayload ≤ 255) (hbuf : t.buf.fits c)
    (hp : p.length ≤ c.maxPayload) : TxInv c (t.load c p) := by
  have hlen : (t.load c p).len.toNat = p.length := by
    rw [TxRegs.load_len, BitVec.toNat_ofNat, Nat.mod_eq_of_lt (by omega)]
  have hloaded : (t.load c p).isLoaded c := by
    refine ⟨hlen.trans_le hp, ?_, ?_⟩ <;> rw [hlen]
    · exact Memory.writtenUpTo_writeFrom t.buf p
    · rw [TxRegs.readUpTo_load, TxRegs.load_ck]
  exact ⟨Memory.writeFrom_fits hbuf (by omega), hloaded, rfl⟩

/-- After the length byte come the payload's bytes, or, when there are none, the checksum. -/
theorem TxInv.afterLength {c : Config} {t : TxRegs} (hbuf : t.buf.fits c) (hloaded : t.isLoaded c)
    (hidx : t.idx = 0) : TxInv c { t with state := if t.len = 0 then .emitCk else .emitData } := by
  refine ⟨hbuf, ?_⟩
  by_cases hzero : t.len = 0
  · simp only [if_pos hzero]
    exact ⟨hloaded, hidx.trans hzero.symm⟩
  · simp only [if_neg hzero]
    have hlt : t.idx.toNat < t.len.toNat := by bv_omega
    exact ⟨hloaded, hlt⟩

/-- `advance` goes on to the next byte of the payload, or, past the last one, to the checksum. -/
theorem TxInv.advance {c : Config} {t : TxRegs} (hbuf : t.buf.fits c) (hloaded : t.isLoaded c)
    (hlt : t.idx.toNat < t.len.toNat) : TxInv c t.advance := by
  refine ⟨hbuf, ?_⟩
  by_cases hlast : t.idx + 1 = t.len
  · simp only [TxRegs.advance_state, if_pos hlast]
    exact ⟨hloaded, hlast⟩
  · simp only [TxRegs.advance_state, if_neg hlast]
    have hlt' : (t.idx + 1).toNat < t.len.toNat := by bv_omega
    exact ⟨hloaded, hlt'⟩

/-! ### Every step of TX keeps it -/

theorem txTake_keeps_inv {c : Config} {t : TxRegs} {o : TxOut} (h : TxInv c t) (hx : txTake c t = .ok o) :
    TxInv c o.regs ∧ o.event.causeFits := by
  obtain ⟨hbuf, hstate⟩ := h
  rcases txTake_cases hx with ⟨-, rfl⟩ | ⟨hs, rfl⟩ | ⟨hs, rfl⟩ | ⟨hs, -, hres, rfl⟩ | ⟨hs, -, -, rfl⟩ | ⟨hs, -, rfl⟩
    | ⟨hs, hres, rfl⟩ | ⟨hs, -, rfl⟩ | ⟨hs, rfl⟩ | ⟨-, rfl⟩
  · exact ⟨⟨hbuf, hstate⟩, trivial⟩
  · rw [hs] at hstate
    exact ⟨⟨hbuf, hstate⟩, trivial⟩
  · rw [hs] at hstate
    exact ⟨.afterLength hbuf hstate.1 hstate.2, trivial⟩
  · rw [hs] at hstate
    exact ⟨⟨hbuf, hstate.1, hstate.2, hres⟩, trivial⟩
  · rw [hs] at hstate
    exact ⟨.advance hbuf hstate.1 hstate.2, trivial⟩
  · rw [hs] at hstate
    obtain ⟨hloaded, hlt, -⟩ := hstate
    exact ⟨.advance hbuf hloaded hlt, trivial⟩
  · rw [hs] at hstate
    exact ⟨⟨hbuf, hstate.1, hstate.2, hres⟩, trivial⟩
  · rw [hs] at hstate
    exact ⟨⟨hbuf, hstate⟩, trivial⟩
  · rw [hs] at hstate
    obtain ⟨hloaded, hidx, -⟩ := hstate
    exact ⟨⟨hbuf, hloaded, hidx⟩, trivial⟩
  · exact ⟨.of_idle hbuf rfl, trivial⟩

theorem txOnSend_keeps_inv {c : Config} {t : TxRegs} {p : List Byte} {o : TxOut} (hc : c.maxPayload ≤ 255)
    (h : TxInv c t) (hx : txOnSend c t p = .ok o) : TxInv c o.regs ∧ o.event.causeFits := by
  unfold txOnSend at hx
  split at hx
  · cases hx
    exact ⟨h, by decide, by decide⟩
  · split at hx <;> cases hx
    · exact ⟨h, by decide, by decide⟩
    · rename_i hp
      exact ⟨.load hc h.1 (Nat.le_of_not_lt hp), trivial⟩

theorem txOnWriteError_keeps_inv {c : Config} {t : TxRegs} {o : TxOut} (h : TxInv c t)
    (hx : txOnWriteError t = .ok o) : TxInv c o.regs ∧ o.event.causeFits := by
  unfold txOnWriteError at hx
  split at hx <;> cases hx
  · exact ⟨h, trivial⟩
  · exact ⟨.of_idle h.1 rfl, by decide, by decide⟩

/-- The invariant of TX is kept by each of its inputs, and a `TxError` it raises has one of the causes 8 to 10. -/
theorem txStep_keeps_inv {c : Config} {t : TxRegs} {w : TxInput} {o : TxOut} (hc : c.maxPayload ≤ 255)
    (h : TxInv c t) (hx : txStep c t w = .ok o) : TxInv c o.regs ∧ o.event.causeFits := by
  cases w with
  | send p => exact txOnSend_keeps_inv hc h hx
  | take => exact txTake_keeps_inv h hx
  | writeError => exact txOnWriteError_keeps_inv h hx

/-! ### The machine's invariant, by the next states of an operation -/

theorem Inv.quiet {s : State} (h : Inv s) : Inv s.quiet := ⟨h.cfg, h.rx, h.tx, trivial, trivial, h.pending⟩

theorem Inv.withRx {s : State} (h : Inv s) {r : RxRegs} {e : RxEvent} (hr : RxInv s.cfg r ∧ e.causeFits) :
    Inv (s.withRx r e) := ⟨h.cfg, hr.1, h.tx, hr.2, trivial, h.pending⟩

theorem Inv.withTx {s : State} (h : Inv s) {o : TxOut} (ho : TxInv s.cfg o.regs ∧ o.event.causeFits) :
    Inv (s.withTx o) := ⟨h.cfg, h.rx, ho.1, trivial, ho.2, h.pending⟩

theorem Inv.withResult {s : State} (h : Inv s) (v : OpResult) : Inv (s.withResult v) :=
  ⟨h.cfg, h.rx, h.tx, trivial, trivial, h.pending⟩

theorem Inv.withExpansion {s : State} (h : Inv s) {is : List Input} (his : ∀ w ∈ is, w.isInterface = true) :
    Inv (s.withExpansion is) :=
  ⟨h.cfg, h.rx, h.tx, trivial, trivial, fun w hw => (List.mem_append.mp hw).elim (his w) (h.pending w)⟩

theorem Inv.taken {s : State} (h : Inv s) {w : Input} {rest : List Input} (hp : s.pending = w :: rest) :
    Inv (s.taken rest) :=
  ⟨h.cfg, h.rx, h.tx, h.rxEvent, h.txEvent, fun v hv => h.pending v (hp ▸ List.mem_cons_of_mem w hv)⟩

/-! ### Every instruction of the interface keeps it -/

theorem stepRx_keeps_inv {s t : State} {u : RxInput} (h : Inv s)
    (hx : s.stepRx (rxStep s.cfg s.rxN s.rx u) = .next t) : Inv t := by
  obtain ⟨r, e, hr, rfl⟩ := State.stepRx_next.mp hx
  exact h.withRx (rxStep_keeps_inv h.rx hr)

theorem stepTx_keeps_inv {s t : State} {w : TxInput} (h : Inv s)
    (hx : s.stepTx (txStep s.cfg s.tx w) = .next t) : Inv t := by
  obtain ⟨o, ho, rfl⟩ := State.stepTx_next.mp hx
  exact h.withTx (txStep_keeps_inv (Config.maxPayload_le h.cfg) h.tx ho)

theorem exec_wire_keeps_inv {s t : State} {i : Instr} (h : Inv s) (hf : i.format = .wire)
    (hx : exec i s = .next t) : Inv t := by
  obtain ⟨b, hb⟩ := Instr.encode_of_wire hf s.cfg
  exact stepRx_keeps_inv (u := .byte b) h ((exec_wire_eq_consume hb).symm.trans hx)

theorem exec_host_keeps_inv {s t : State} {i : Instr} (h : Inv s) (hf : i.format = .host)
    (hx : exec i s = .next t) : Inv t := by
  cases i <;> simp only [Instr.format, reduceCtorEq] at hf <;> cases hx
  case cfgSetn n => exact ⟨h.cfg, h.rx, h.tx, trivial, trivial, h.pending⟩
  case reset => exact ⟨h.cfg, .reset .., .reset .., trivial, trivial, h.pending⟩
  case encodeFrame p => exact h.withResult _

/-- The expansions of the pseudo-tokens are inputs of RX and of TX. -/
theorem exec_pseudo_keeps_inv {s t : State} {i : Instr} (h : Inv s) (hf : i.format = .pseudo)
    (hx : exec i s = .next t) : Inv t := by
  have htakes (n : Nat) : ∀ w ∈ List.replicate n (Input.tx .take), w.isInterface = true := fun w hw => by
    rw [List.eq_of_mem_replicate hw]
    rfl
  cases i <;> simp only [Instr.format, reduceCtorEq] at hf
  case frame p =>
    replace hx : execFrame p s = .next t := hx
    unfold execFrame at hx
    split at hx <;> cases hx
    · refine h.withExpansion fun w hw => ?_
      obtain ⟨b, -, rfl⟩ := List.mem_map.mp hw
      rfl
    · exact h.withResult _
  case takeN n =>
    cases hx
    exact h.withExpansion (htakes n)
  case sendAll p =>
    cases hx
    exact h.withExpansion (List.forall_mem_cons.mpr ⟨rfl, htakes _⟩)

/-- Every instruction but a procedure of RX or TX called on its own keeps the invariant. -/
theorem exec_keeps_inv {s t : State} {i : Instr} (h : Inv s) (hf : i.format ≠ .internal)
    (hx : exec i s = .next t) : Inv t := by
  cases hi : i.format with
  | wire => exact exec_wire_keeps_inv h hi hx
  | rxin =>
    rcases Instr.eq_rxRow_or_reserved hi with ⟨q, u, rfl⟩ | ⟨low, rfl⟩
    · exact stepRx_keeps_inv h ((exec_rxRow q u s).symm.trans hx)
    · cases hx
  | txin =>
    rcases Instr.eq_txRow_or_reserved hi with ⟨q, w, rfl⟩ | rfl
    · exact stepTx_keeps_inv h ((exec_txRow q w s).symm.trans hx)
    · cases hx
  | host => exact exec_host_keeps_inv h hi hx
  | internal => exact absurd hi hf
  | pseudo => exact exec_pseudo_keeps_inv h hi hx

/-- Settles O42: a step rests, or takes an input of the interface and runs its row, and each such row keeps the
invariants of the two agents. -/
theorem everyStepKeepsTheInvariant : Obligations.EveryStepKeepsTheInvariant := by
  intro s t h hstep
  obtain ⟨-, ⟨-, rfl⟩ | ⟨w, rest, i, hp, hi, hx⟩⟩ := step_next hstep
  · exact h.quiet
  · have hw : w.isInterface = true := h.pending w (by simp [hp])
    exact exec_keeps_inv (h.taken hp) (Input.row_format_ne_internal hw hi) hx

/-- Settles O41. -/
theorem invariantHoldsAtReset : Obligations.InvariantHoldsAtReset :=
  ⟨by decide, .reset .., .reset .., trivial, trivial, nofun⟩

/-- Settles O2: profile P0 has the checksum `XOR8`, so that `CK_INIT` is 0. -/
theorem powerOnStateHasTheResetValues : Obligations.PowerOnStateHasTheResetValues := by
  unfold Obligations.PowerOnStateHasTheResetValues
  decide

/-! ### The agents are independent (10_state.md R13) -/

theorem exec_rxRow_eq_next_iff {q : RxState} {u : RxInput} {s t : State} :
    exec (rxRow q u) s = .next t ↔ ∃ r e, rxStep s.cfg s.rxN s.rx u = .ok (r, e) ∧ t = s.withRx r e := by
  rw [exec_rxRow, State.stepRx_next]

theorem exec_txRow_eq_next_iff {q : TxState} {w : TxInput} {s t : State} :
    exec (txRow q w) s = .next t ↔ ∃ o, txStep s.cfg s.tx w = .ok o ∧ t = s.withTx o := by
  rw [exec_txRow, State.stepTx_next]

/-- Settles O45: what RX does depends on the configuration, `RX_N` and its own registers, what TX does on the
configuration and its own, and neither writes what the other reads. -/
theorem agentsAreIndependent : Obligations.AgentsAreIndependent := by
  intro s u w
  constructor
  · intro a ab ha hab
    obtain ⟨r, e, hr, rfl⟩ := exec_rxRow_eq_next_iff.mp ha
    obtain ⟨o, ho, rfl⟩ := exec_txRow_eq_next_iff.mp hab
    exact ⟨s.withTx o, (s.withTx o).withRx r e, exec_txRow_eq_next_iff.mpr ⟨o, ho, rfl⟩,
      exec_rxRow_eq_next_iff.mpr ⟨r, e, hr, rfl⟩, rfl, rfl, rfl, rfl, rfl, rfl, rfl, rfl⟩
  · intro b ba hb hba
    obtain ⟨o, ho, rfl⟩ := exec_txRow_eq_next_iff.mp hb
    obtain ⟨r, e, hr, rfl⟩ := exec_rxRow_eq_next_iff.mp hba
    exact ⟨s.withRx r e, (s.withRx r e).withTx o, exec_rxRow_eq_next_iff.mpr ⟨r, e, hr, rfl⟩,
      exec_txRow_eq_next_iff.mpr ⟨o, ho, rfl⟩, rfl, rfl, rfl, rfl, rfl, rfl, rfl, rfl⟩

/-! ### What a step runs -/

/-- Settles O38: the row of an encoded word is what it decodes to; the row of any other input is given by its kind and
the state of its agent. -/
theorem stepRunsTheDecodedInstruction : Obligations.StepRunsTheDecodedInstruction := fun _ _ hc =>
  ⟨fun _ _ hp hi => step_of_row hc hp hi, fun _ _ hp he => step_of_undecodable hc hp he,
    fun _ hp => step_of_row hc hp rfl, fun _ hp => step_of_row hc hp rfl, fun _ hp => step_of_row hc hp rfl⟩

/-! ### What the host reads (10_state.md R29; 60_exceptions.md R126 to R128, R145) -/

theorem RxState.code_injective : Function.Injective RxState.code := by
  intro q q' h
  cases q <;> cases q' <;> simp [RxState.code] at h ⊢

theorem TxState.code_injective : Function.Injective TxState.code := by
  intro q q' h
  cases q <;> cases q' <;> simp [TxState.code] at h ⊢

/-- Code 7 is that of `Done`, which RX never holds between steps (42_decoder.md R107). -/
theorem RxState.code_ne_seven (q : RxState) : q.code ≠ 7 := by
  cases q <;> decide

/-- The status view tells apart any two states that differ in one of its ten registers. -/
theorem State.registers_eq_of_status_eq {s t : State} (h : s.status = t.status) :
    s.rx.state = t.rx.state ∧ s.rx.len = t.rx.len ∧ s.rx.idx = t.rx.idx ∧ s.rx.ck = t.rx.ck ∧ s.rx.ckrx = t.rx.ckrx
    ∧ s.tx.state = t.tx.state ∧ s.tx.len = t.tx.len ∧ s.tx.idx = t.tx.idx ∧ s.tx.ck = t.tx.ck ∧ s.rxN = t.rxN := by
  simp only [State.status, StatusView.mk.injEq] at h
  obtain ⟨hrx, rxLen, rxIdx, rxCk, rxCkrx, htx, txLen, txIdx, txCk, rxN⟩ := h
  exact ⟨RxState.code_injective hrx, rxLen, rxIdx, rxCk, rxCkrx, TxState.code_injective htx, txLen, txIdx, txCk, rxN⟩

/-- The causes 1 to 6 are hidden in the default view and surfaced in the diagnostic one (60_exceptions.md R128). -/
theorem RxEvent.views_of_code_le_six {cause : Cause} (h : cause.code ≤ 6) :
    (RxEvent.drop cause).defaultView = .noDataGoesOn ∧ (RxEvent.drop cause).diagnosticView = .error cause := by
  cases cause
  case timeout | transportError | payloadTooLarge | txBusy => exact absurd h (by decide)
  all_goals exact ⟨rfl, rfl⟩

/-- Settles O60. -/
theorem statusShowsTheRegisters : Obligations.StatusShowsTheRegisters := by
  refine ⟨fun s => ⟨?_, ?_, RxState.code_ne_seven _, rfl, rfl, rfl, rfl, rfl, rfl, rfl, rfl,
    fun _ => State.registers_eq_of_status_eq⟩, by decide, fun p cause => ?_⟩
  · show s.rx.state.code = _
    cases s.rx.state <;> rfl
  · show s.tx.state.code = _
    cases s.tx.state <;> rfl
  · exact ⟨rfl, rfl, rfl, rfl, rfl, rfl, rfl, rfl, rfl, rfl, rfl, rfl, rfl, rfl, RxEvent.views_of_code_le_six, rfl, rfl,
      rfl, rfl, rfl⟩

end Sys2Proof.Machine
end

section
/-! Proofs about the two buffers (20_memory.md): an access to an element that does not exist faults, and nothing else in
`store`, `Done` and `Take` does. -/

open Sys2Proof Sys2Proof.Machine Sys2Proof.Claims

namespace Sys2Proof.Machine

/-! ### A step faults exactly when its agent does -/

theorem State.stepRx_fault {s : State} {x : RxResult} {f : Fault} : s.stepRx x = .fault f ↔ x = .error f := by
  cases x <;> simp [State.stepRx]

theorem State.stepTx_fault {s : State} {x : TxResult} {f : Fault} : s.stepTx x = .fault f ↔ x = .error f := by
  cases x <;> simp [State.stepTx]

/-! ### The exact bound of each access (20_memory.md R32) -/

theorem RxRegs.store_eq_error_iff {c : Config} {r : RxRegs} {v : Byte} :
    r.store c v = .error .bufferIndexOutOfRange ↔ c.maxPayload ≤ r.idx.toNat :=
  ⟨RxRegs.store_error, fun h => if_neg (Nat.not_lt.mpr h)⟩

theorem RxRegs.done_eq_error_iff {c : Config} {r : RxRegs} :
    r.done c = .error .bufferIndexOutOfRange ↔ c.maxPayload < r.len.toNat :=
  ⟨RxRegs.done_error, fun h => if_neg (Nat.not_le.mpr h)⟩

theorem TxRegs.current_eq_error_iff {c : Config} {t : TxRegs} :
    t.current c = .error .bufferIndexOutOfRange ↔ c.maxPayload ≤ t.idx.toNat :=
  ⟨TxRegs.current_error, fun h => if_neg (Nat.not_lt.mpr h)⟩

/-- The two states that read `tx_buf` are the only ones where `Take` can fault, and there it is the read that does. -/
theorem txTake_eq_error_iff {c : Config} {t : TxRegs} :
    txTake c t = .error .bufferIndexOutOfRange
      ↔ (t.state = .emitData ∨ t.state = .emitDataEsc2) ∧ c.maxPayload ≤ t.idx.toNat := by
  refine ⟨txTake_error, ?_⟩
  rintro ⟨hs | hs, hidx⟩
  · simp only [txTake, hs, txEmitData, TxRegs.current_eq_error_iff.mpr hidx]
  · simp only [txTake, hs, txEmitDataEsc2, TxRegs.current_eq_error_iff.mpr hidx]

/-! ### The rows -/

theorem exec_store_fault_iff {s : State} {v : Byte} :
    exec (.store v) s = .fault .bufferIndexOutOfRange ↔ s.cfg.maxPayload ≤ s.rx.idx.toNat :=
  State.stepRx_fault.trans RxRegs.store_eq_error_iff

theorem exec_done_fault_iff {s : State} :
    exec .done s = .fault .bufferIndexOutOfRange ↔ s.cfg.maxPayload < s.rx.len.toNat :=
  State.stepRx_fault.trans RxRegs.done_eq_error_iff

/-- `Take`, given as whichever row: what decides is the state TX stands in. -/
theorem exec_txRow_take_fault_iff (q : TxState) {s : State} :
    exec (txRow q .take) s = .fault .bufferIndexOutOfRange
      ↔ (s.tx.state = .emitData ∨ s.tx.state = .emitDataEsc2) ∧ s.cfg.maxPayload ≤ s.tx.idx.toNat := by
  rw [exec_txRow, State.stepTx_fault]
  exact txTake_eq_error_iff

/-- Settles O34: each of the four accesses is guarded by the bound of its element and by nothing else. -/
theorem missingElementsFault : Obligations.MissingElementsFault := by
  intro s v
  refine ⟨exec_store_fault_iff, exec_done_fault_iff, fun hs => ?_, fun hs => ?_⟩
  · exact (exec_txRow_take_fault_iff .emitData).trans (and_iff_right (.inl hs))
  · exact (exec_txRow_take_fault_iff .emitDataEsc2).trans (and_iff_right (.inr hs))

end Sys2Proof.Machine
end

section
/-! Proofs about the encodings (30_encoding.md): encoder and decoder undo each other, an `RX.BYTE` row is the WIRE row
of its byte, what the WIRE rows do at their positions, what the pseudo-tokens expand to, and that the unused kinds are
refused. An input of RX or of TX has one word, whatever state its row belongs to: encoder and decoder meet there. -/

open Sys2Proof Sys2Proof.Machine Sys2Proof.Claims

namespace Sys2Proof

/-! ### Rows, their conditions and where they belong -/

theorem Instr.valueHolds_of_wellFormed {c : Config} {n : Byte} {i : Instr} (h : i.wellFormed c n = true) :
    i.valueHolds c n = true := by
  simp only [Instr.wellFormed, Bool.and_eq_true] at h
  obtain ⟨⟨⟨-, hv⟩, -⟩, -⟩ := h
  exact hv

/-- A row of the wire is well formed when its byte meets the row's condition. -/
theorem Instr.wellFormed_of_wire {c : Config} {n : Byte} {i : Instr} (hf : i.format = .wire)
    (h : i.valueHolds c n = true) : i.wellFormed c n = true := by
  cases i <;> simp only [Instr.format, reduceCtorEq] at hf <;>
    simp only [Instr.wellFormed, h, Instr.kindExists, Instr.causeFits, Instr.polyFits, Bool.and_self]

theorem Instr.standsIn_iff {x : Context} {i : Instr} :
    i.standsIn x = true
      ↔ (∀ q, i.rxPosition = some q → x.rxState = q) ∧ ∀ q, i.txPosition = some q → x.txState = q := by
  unfold Instr.standsIn
  cases i.rxPosition <;> cases i.txPosition <;> simp

/-- Only the rows of three formats have a word. -/
theorem Instr.format_of_encode {c : Config} {i : Instr} {w : Code} (h : encode c i = some w) :
    i.format = .wire ∨ i.format = .rxin ∨ i.format = .txin := by
  cases i <;> simp [encode, Instr.format] at h ⊢

/-! ### The two fields of `RXIN[9:0]` and the kinds (30_encoding.md R64) -/

@[simp] theorem rxinKind_rxinWord (kind : BitVec 2) (b : Byte) : rxinKind (rxinWord kind b) = kind :=
  BitVec.extractLsb'_append_eq_left

@[simp] theorem rxinByte_rxinWord (kind : BitVec 2) (b : Byte) : rxinByte (rxinWord kind b) = b :=
  BitVec.extractLsb'_append_eq_right

/-- No bit of `RXIN[9:0]` is outside its two fields. -/
theorem rxinWord_rxinKind_rxinByte (w : BitVec 10) : rxinWord (rxinKind w) (rxinByte w) = w :=
  BitVec.extractLsb'_append_extractLsb'

theorem inputKind_cases (kind : BitVec 2) : kind = 0 ∨ kind = 1 ∨ kind = 2 ∨ kind = 3 := by
  revert kind
  decide

/-! ### The rows of RXIN: the word of an input of RX -/

/-- The word `RXIN[9:0]` of an input of RX (30_encoding.md R64), in every state. -/
def RxInput.code : RxInput → Code
  | .byte b => .rxin (rxinWord 0 b)
  | .timeout => .rxin (rxinWord 1 0)
  | .ioError => .rxin (rxinWord 2 0)

theorem encode_rxRow (c : Config) (q : RxState) (u : RxInput) : encode c (rxRow q u) = some u.code := by
  cases u with
  | byte b => cases q <;> rfl
  | timeout => rfl
  | ioError => rfl

theorem decode_rxCode (x : Context) (u : RxInput) : decode x u.code = .ok (rxRow x.rxState u) := by
  cases u <;> simp [decode, decodeRxin, RxInput.code]

/-- What a word of RXIN decodes to is the row of the input whose word it is, or the unused kind. -/
theorem decodeRxin_ok {q : RxState} {w : BitVec 10} {i : Instr} (h : decodeRxin q w = .ok i) :
    (∃ u : RxInput, .rxin w = u.code ∧ i = rxRow q u) ∨ ∃ low, w = rxinWord 3 low ∧ i = .rxReserved3 low := by
  obtain ⟨kind, b, rfl⟩ : ∃ kind b, w = rxinWord kind b := ⟨_, _, (rxinWord_rxinKind_rxinByte w).symm⟩
  have byte_zero : kind = 1 ∨ kind = 2 → b = 0#8 := by
    intro hk
    by_contra hb
    rcases hk with rfl | rfl <;> simp [decodeRxin, hb] at h
  rcases inputKind_cases kind with rfl | rfl | rfl | rfl
  · exact .inl ⟨.byte b, rfl, by simpa [decodeRxin] using h.symm⟩
  · obtain rfl := byte_zero (.inl rfl)
    exact .inl ⟨.timeout, rfl, by simpa [decodeRxin] using h.symm⟩
  · obtain rfl := byte_zero (.inr rfl)
    exact .inl ⟨.ioError, rfl, by simpa [decodeRxin] using h.symm⟩
  · exact .inr ⟨b, rfl, by simpa [decodeRxin] using h.symm⟩

theorem rxRow_standsIn (x : Context) (u : RxInput) : (rxRow x.rxState u).standsIn x = true := by
  cases u with
  | byte b => cases hq : x.rxState <;> simp [rxRow, Instr.standsIn, Instr.rxPosition, Instr.txPosition, hq]
  | timeout => rfl
  | ioError => rfl

/-- A row of RXIN that can be met is the row of its input at the state RX stands in. -/
theorem rxRow_eq_of_standsIn {x : Context} {q : RxState} {u : RxInput} (h : (rxRow q u).standsIn x = true) :
    rxRow x.rxState u = rxRow q u := by
  cases u with
  | byte b => rw [(Instr.standsIn_iff.mp h).1 q (by cases q <;> rfl)]
  | timeout => rfl
  | ioError => rfl

theorem rxRow_wellFormed (c : Config) (n : Byte) (q : RxState) (u : RxInput) : (rxRow q u).wellFormed c n = true := by
  cases u with
  | byte b => cases q <;> rfl
  | timeout => rfl
  | ioError => rfl

/-! ### The rows of TXIN: the word of an input of TX -/

/-- The kind `TXIN[1:0]` of an input of TX with its side operand (30_encoding.md R64), in every state. -/
def TxInput.code : TxInput → Code
  | .take => .txin 0 []
  | .send p => .txin 1 p
  | .writeError => .txin 2 []

theorem encode_txRow (c : Config) (q : TxState) (w : TxInput) : encode c (txRow q w) = some w.code := by
  cases w with
  | send p => rfl
  | take => cases q <;> rfl
  | writeError => rfl

theorem decode_txCode (x : Context) (w : TxInput) : decode x w.code = .ok (txRow x.txState w) := by
  cases w <;> rfl

/-- What a word of TXIN decodes to is the row of the input whose word it is, or the unused kind. -/
theorem decodeTxin_ok {q : TxState} {kind : BitVec 2} {p : List Byte} {i : Instr} (h : decodeTxin q kind p = .ok i) :
    (∃ w : TxInput, .txin kind p = w.code ∧ i = txRow q w) ∨ (kind = 3 ∧ p = [] ∧ i = .txReserved3) := by
  by_cases hk : kind = 1#2
  · subst hk
    exact .inl ⟨.send p, rfl, by simpa [decodeTxin] using h.symm⟩
  · have hp : p = [] := by
      by_contra hp
      simp [decodeTxin, hk, hp] at h
    subst hp
    rcases inputKind_cases kind with rfl | rfl | rfl | rfl
    · exact .inl ⟨.take, rfl, by simpa [decodeTxin] using h.symm⟩
    · exact absurd rfl hk
    · exact .inl ⟨.writeError, rfl, by simpa [decodeTxin] using h.symm⟩
    · exact .inr ⟨rfl, rfl, by simpa [decodeTxin] using h.symm⟩

theorem txRow_standsIn (x : Context) (w : TxInput) : (txRow x.txState w).standsIn x = true := by
  cases w with
  | send p => rfl
  | take => cases hq : x.txState <;> simp [txRow, Instr.standsIn, Instr.rxPosition, Instr.txPosition, hq]
  | writeError => rfl

/-- A row of TXIN that can be met is the row of its input at the state TX stands in. -/
theorem txRow_eq_of_standsIn {x : Context} {q : TxState} {w : TxInput} (h : (txRow q w).standsIn x = true) :
    txRow x.txState w = txRow q w := by
  cases w with
  | send p => rfl
  | take => rw [(Instr.standsIn_iff.mp h).2 q (by cases q <;> rfl)]
  | writeError => rfl

theorem txRow_wellFormed (c : Config) (n : Byte) (q : TxState) (w : TxInput) : (txRow q w).wellFormed c n = true := by
  cases w with
  | send p => rfl
  | take => cases q <;> rfl
  | writeError => rfl

/-! ### The rows of the wire (30_encoding.md R58) -/

theorem Config.isReserved_eq_false_iff {c : Config} {b : Byte} :
    c.isReserved b = false ↔ b ≠ c.esc ∧ c.isMarker b = false := by
  rw [and_comm, Config.isReserved, ← beq_eq_false_iff_ne, ← Bool.or_eq_false_iff]
  rfl

theorem Config.isReserved_dec_eq_false_iff {c : Config} {b : Byte} :
    c.isReserved (c.dec b) = false ↔ b ≠ c.enc c.start ∧ b ≠ c.enc c.stop ∧ b ≠ c.enc c.esc := by
  simp only [ne_eq, c.eq_enc_iff, ← Bool.not_eq_true, c.isReserved_iff, not_or]

@[simp] theorem Config.enc_eq_enc_iff {c : Config} {v w : Byte} : c.enc v = c.enc w ↔ v = w :=
  ⟨Config.enc_inj, congrArg c.enc⟩

theorem Config.ne_esc_of_isMarker {c : Config} (hc : c.wf = true) {b : Byte} (h : c.isMarker b = true) :
    b ≠ c.esc := by
  rcases (c.isMarker_iff b).mp h with rfl | rfl
  · exact (c.esc_ne_start hc).symm
  · exact (c.esc_ne_stop hc).symm

theorem encode_wireRow (x : Context) (b : Byte) : encode x.cfg (wireRow x b) = some (.wire b) := by
  unfold wireRow
  repeat' split
  all_goals simp only [encode, *]

theorem wireRow_standsIn (x : Context) (b : Byte) : (wireRow x b).standsIn x = true := by
  cases hq : x.rxState <;> simp only [wireRow, hq] <;> repeat' split
  all_goals simp only [Instr.standsIn, Instr.rxPosition, Instr.txPosition, hq, beq_self_eq_true, Bool.and_self]

/-- The tests that lead to a row are the row's condition. -/
theorem wireRow_valueHolds (x : Context) (b : Byte) : (wireRow x b).valueHolds x.cfg x.rxN = true := by
  unfold wireRow
  repeat' split
  all_goals simp_all [Instr.valueHolds, Config.isReserved, Config.isMarker, Config.eq_enc_iff]

/-- At the position of a row, a byte that meets the row's condition passes the tests of the rows before it. -/
theorem wireRow_of_encode {x : Context} {i : Instr} {b : Byte} (hc : x.cfg.wf = true)
    (hv : i.valueHolds x.cfg x.rxN = true) (hs : i.standsIn x = true) (he : encode x.cfg i = some (.wire b)) :
    wireRow x b = i := by
  obtain ⟨hq, -⟩ := Instr.standsIn_iff.mp hs
  cases i <;> simp only [encode, Option.some.injEq, Code.wire.injEq, reduceCtorEq] at he <;> subst he <;>
    simp only [wireRow, hq _ rfl] <;>
    simp only [Instr.valueHolds, Bool.and_eq_true, bne_iff_ne, beq_iff_eq, Bool.not_eq_true'] at hv
  case sof | esc | escdStart | escCk | esckStart | eof => exact if_pos trivial
  case fill | illStop => exact if_neg hv
  case illLenMax => exact if_pos hv
  case illLenSize => simp [hv]
  case len =>
    obtain ⟨hmax, hn⟩ := hv
    simp [hmax, ← hn]
  case illMarkData | illMarkCk => simp [hv, Config.ne_esc_of_isMarker hc]
  case data | cks => simp [Config.isReserved_eq_false_iff.mp hv]
  case escdStop | esckStop => simp [hv]
  case escdEsc | esckEsc => simp [Config.esc_ne_start hc, Config.esc_ne_stop hc]
  case illEscData | illEscCk => simp [Config.isReserved_dec_eq_false_iff.mp hv]

/-! ### Encoder and decoder undo each other -/

/-- Settles O36, by the three formats that have words: on the wire the tests of the position single the row out, and the
row of an input is the one row with its word that belongs to the state. -/
theorem decodeOfEncodeGivesBack : Obligations.DecodeOfEncodeGivesBack := by
  intro x i w hc hw hs he
  rcases Instr.format_of_encode he with hf | hf | hf
  · obtain ⟨b, hb⟩ := Instr.encode_of_wire hf x.cfg
    obtain rfl : .wire b = w := Option.some.inj (hb.symm.trans he)
    exact congrArg Except.ok (wireRow_of_encode hc (Instr.valueHolds_of_wellFormed hw) hs he)
  · rcases Instr.eq_rxRow_or_reserved hf with ⟨q, u, rfl⟩ | ⟨low, rfl⟩
    · obtain rfl : u.code = w := Option.some.inj ((encode_rxRow x.cfg q u).symm.trans he)
      rw [decode_rxCode, rxRow_eq_of_standsIn hs]
    · cases hw
  · rcases Instr.eq_txRow_or_reserved hf with ⟨q, v, rfl⟩ | rfl
    · obtain rfl : v.code = w := Option.some.inj ((encode_txRow x.cfg q v).symm.trans he)
      rw [decode_txCode, txRow_eq_of_standsIn hs]
    · cases hw

/-- Settles O37, by the formats of the words. -/
theorem encodeOfDecodeGivesBack : Obligations.EncodeOfDecodeGivesBack := by
  intro x i w _ h
  cases w with
  | wire b =>
    cases h
    exact ⟨encode_wireRow x b, wireRow_standsIn x b,
      .inl (Instr.wellFormed_of_wire (wireRow_format x b) (wireRow_valueHolds x b))⟩
  | rxin w =>
    rcases decodeRxin_ok h with ⟨u, hu, rfl⟩ | ⟨low, rfl, rfl⟩
    · exact ⟨hu ▸ encode_rxRow .., rxRow_standsIn x u, .inl (rxRow_wellFormed ..)⟩
    · exact ⟨rfl, rfl, .inr (.inl ⟨low, rfl⟩)⟩
  | txin kind p =>
    rcases decodeTxin_ok h with ⟨v, hv, rfl⟩ | ⟨rfl, rfl, rfl⟩
    · exact ⟨hv ▸ encode_txRow .., txRow_standsIn x v, .inl (txRow_wellFormed ..)⟩
    · exact ⟨rfl, rfl, .inr (.inr rfl)⟩
  | other n w => cases h

/-- Settles O35: closed words, decoded by evaluation. -/
theorem sampleWordsDecode : Obligations.SampleWordsDecode := by
  unfold Obligations.SampleWordsDecode
  decide

end Sys2Proof

namespace Sys2Proof.Machine

/-! ### The rows of an agent's state are its step (42_decoder.md R97, 41_encoder.md R78) -/

/-- Settles O31: the WIRE row of a byte encodes to the byte, and a row of the wire is its byte given to RX. -/
theorem byteRowsAreTheirWireRows : Obligations.ByteRowsAreTheirWireRows := by
  intro s b
  refine ⟨fun _ => ?_, fun u => ⟨fun r e h => ?_, fun f h => ?_⟩, fun w => ⟨fun o h => ?_, fun f h => ?_⟩⟩
  · rw [exec_wire_eq_consume (encode_wireRow s.context b)]
    exact exec_rxRow s.rx.state (.byte b) s
  · exact exec_rxRow_eq_next_iff.mpr ⟨r, e, h, s.withRx_eq_afterRx r e⟩
  · exact (exec_rxRow ..).trans (State.stepRx_fault.mpr h)
  · exact exec_txRow_eq_next_iff.mpr ⟨o, h, s.withTx_eq_afterTx o⟩
  · exact (exec_txRow ..).trans (State.stepTx_fault.mpr h)

/-! ### A row of the wire at its position, under its condition (30_encoding.md R58, R60) -/

section AtPosition

variable {s : State} {q : RxState} {b v : Byte} {cond : Bool}

theorem State.symbol_of_holds (hq : s.rx.state = q) (hcond : cond = true) (effect : RxResult) :
    s.symbol q b cond effect = s.stepRx effect := if_pos ⟨hq, hcond⟩

/-- A row that raises nothing and leaves the registers `r`. -/
theorem State.symbol_moves (hq : s.rx.state = q) (hcond : cond = true) (r : RxRegs) :
    ∃ t, s.symbol q b cond (.ok (r, .none)) = .next t ∧ RxFrame s t ∧ t.rxEvent = .none ∧ t.rx = r :=
  ⟨_, State.symbol_of_holds hq hcond _, s.withRx_frame r .none, rfl, rfl⟩

/-- A row that drops the frame and judges its byte again (42_decoder.md R98). -/
theorem State.symbol_drops (hq : s.rx.state = q) (hcond : cond = true) (cause : Cause) :
    ∃ t, s.symbol q b cond (.ok (s.rx.resync s.cfg b cause)) = .next t ∧ RxFrame s t ∧ DroppedAt s t b cause :=
  ⟨_, State.symbol_of_holds hq hcond _, s.withRx_frame _ _, s.rx.restart_eq s.cfg b, rfl⟩

/-- A row that stores `v` in an element that exists (42_decoder.md R102). -/
theorem State.symbol_stores (hq : s.rx.state = q) (hcond : cond = true) (hidx : s.rx.idx.toNat < s.cfg.maxPayload) :
    ∃ t, s.symbol q b cond (s.rx.store s.cfg v) = .next t
      ∧ RxFrame s t ∧ t.rxEvent = .none ∧ StoredAs s.cfg s.rx t.rx v := by
  refine ⟨s.withRx (s.rx.stored s.cfg v) .none, ?_, s.withRx_frame _ _, rfl, s.rx.storedAs s.cfg v⟩
  rw [State.symbol_of_holds hq hcond, RxRegs.store_ok.mpr ⟨hidx, rfl, rfl⟩]
  rfl

end AtPosition

/-- The comparison of the checksums, for a length in range (42_decoder.md R106). -/
theorem rxJudge_of_len_le {c : Config} {r : RxRegs} (h : r.len.toNat ≤ c.maxPayload) :
    rxJudge c r = .ok (r.clear c,
      if r.ck = r.ckrx then .frameOk (r.readUpTo r.len.toNat) else .drop .checksumError) := by
  unfold rxJudge
  split
  next hne => rw [if_neg (Ne.symm hne)]; rfl
  next heq => rw [if_pos (not_not.mp heq).symm, RxRegs.done_ok.mpr ⟨h, rfl, rfl⟩]

theorem exceedsMax_eq_true {c : Config} {b : Byte} (h : b.toNat > c.maxPayload) : c.exceedsMax b = true :=
  decide_eq_true h

theorem exceedsMax_eq_false {c : Config} {b : Byte} (h : b.toNat ≤ c.maxPayload) : c.exceedsMax b = false :=
  decide_eq_false (Nat.not_lt.mpr h)

theorem isReserved_eq_false {c : Config} {b : Byte} (h : ¬ Reserved c b) : c.isReserved b = false :=
  Bool.eq_false_iff.mpr (mt (isReserved_iff_reserved c b).mp h)

/-- The condition of the rows `ILL.MARK.DATA` and `ILL.MARK.CK` as they test it: a marker is not `ESC`. -/
theorem marker_condition {c : Config} (hc : c.wf = true) {b : Byte} (h : b = c.start ∨ b = c.stop) :
    (c.isMarker b && b != c.esc) = true := by
  have hm := (c.isMarker_iff b).mpr h
  simp [hm, Config.ne_esc_of_isMarker hc hm]

/-- Settles O28: each row at its position is an acceptance or a drop, once its condition is known to hold. -/
theorem wireRowsStartAndLength : Obligations.WireRowsStartAndLength := by
  intro s b _
  refine ⟨fun hq => ⟨?_, fun hb => ?_⟩, fun hq => ⟨fun hmax => ?_, fun hmax hn => ?_, fun hmax hn => ?_⟩⟩
  · exact State.symbol_moves hq rfl _
  · exact State.symbol_moves hq (by simp [hb]) _
  · exact State.symbol_drops hq (exceedsMax_eq_true hmax) _
  · exact State.symbol_drops hq (by simp [exceedsMax_eq_false hmax, hn]) _
  · exact State.symbol_moves hq (by simp [exceedsMax_eq_false hmax, ← hn]) _

/-- Settles O29: likewise, and the index in range is what the four rows that store ask for. -/
theorem wireRowsPayloadField : Obligations.WireRowsPayloadField := by
  intro s b hc hidx
  refine ⟨fun hq => ⟨?_, fun hb => ?_, fun hb => ?_⟩, fun hq => ⟨?_, ?_, ?_, fun hb => ?_⟩⟩
  · exact State.symbol_moves hq rfl _
  · exact State.symbol_drops hq (marker_condition hc hb) _
  · exact State.symbol_stores hq (by simp [isReserved_eq_false hb]) hidx
  · exact State.symbol_stores hq rfl hidx
  · exact State.symbol_stores hq rfl hidx
  · exact State.symbol_stores hq rfl hidx
  · exact State.symbol_drops hq (by simp [Config.dec, isReserved_eq_false hb]) _

/-- Settles O30: likewise, and `EOF` is the comparison of the checksums. -/
theorem wireRowsChecksumFieldAndEnd : Obligations.WireRowsChecksumFieldAndEnd := by
  intro s b hc
  refine ⟨fun hq => ⟨?_, fun hb => ?_, fun hb => ?_⟩, fun hq => ⟨?_, ?_, ?_, fun hb => ?_⟩,
    fun hq => ⟨fun hlen => ?_, fun hb => ?_⟩⟩
  · exact State.symbol_moves hq rfl _
  · exact State.symbol_drops hq (marker_condition hc hb) _
  · exact State.symbol_moves hq (by simp [isReserved_eq_false hb]) _
  · exact State.symbol_moves hq rfl _
  · exact State.symbol_moves hq rfl _
  · exact State.symbol_moves hq rfl _
  · exact State.symbol_drops hq (by simp [Config.dec, isReserved_eq_false hb]) _
  · exact ⟨_, (State.symbol_of_holds hq rfl _).trans (congrArg s.stepRx (rxJudge_of_len_le hlen)),
      s.withRx_frame _ _, rfl, rfl⟩
  · exact State.symbol_drops hq (by simp [hb]) _

/-! ### Pseudo-tokens (30_encoding.md R66) and the unused kinds -/

theorem encodeFrame_of_le {c : Config} {p : List Byte} (h : p.length ≤ c.maxPayload) :
    encodeFrame c p = .ok (frameOf c p) := by
  rw [← frameBytes_eq_frameOf]
  exact if_neg (Nat.not_lt.mpr h)

theorem encodeFrame_of_gt {c : Config} {p : List Byte} (h : p.length > c.maxPayload) :
    encodeFrame c p = .error .payloadTooLarge := if_pos h

theorem takesOf_eq (c : Config) (p : List Byte) :
    takesOf c p = if p.length ≤ c.maxPayload then (frameOf c p).length else 0 := by
  unfold takesOf
  split_ifs with h
  · rw [encodeFrame_of_le h]
  · rw [encodeFrame_of_gt (Nat.lt_of_not_le h)]

theorem execFrame_of_le {s : State} {p : List Byte} (h : p.length ≤ s.cfg.maxPayload) :
    execFrame p s = .next (s.withExpansion ((frameOf s.cfg p).map fun b => .rx (.byte b))) := by
  rw [execFrame, encodeFrame_of_le h]

theorem execFrame_of_gt {s : State} {p : List Byte} (h : p.length > s.cfg.maxPayload) :
    execFrame p s = .next (s.withResult (.error .payloadTooLarge)) := by
  rw [execFrame, encodeFrame_of_gt h]

/-- Settles O32, by whether the payload has a frame. -/
theorem pseudoTokensExpand : Obligations.PseudoTokensExpand := by
  intro s p n _
  refine ⟨?_, rfl, ?_⟩
  · by_cases h : p.length ≤ s.cfg.maxPayload
    · exact ⟨_, execFrame_of_le h, rfl, rfl, rfl, rfl, rfl, rfl, rfl, rfl, fun _ => ⟨rfl, rfl⟩,
        fun hgt => absurd h (Nat.not_le.mpr hgt)⟩
    · exact ⟨_, execFrame_of_gt (Nat.lt_of_not_le h), rfl, rfl, rfl, rfl, rfl, rfl, rfl, rfl,
        fun hle => absurd hle h, fun _ => ⟨rfl, rfl⟩⟩
  · rw [← takesOf_eq]
    rfl

/-- Settles O33: each of the two meanings is the refusal. -/
theorem unusedKindsAreRefused : Obligations.UnusedKindsAreRefused := fun _ _ => ⟨rfl, rfl⟩

end Sys2Proof.Machine
end

section
/-! Proofs about the checksum accumulator (40_checksum.md): what its rows write, the steps of the three algorithms on
numbers, and that under a well-formed configuration no change of one byte goes unseen. -/

open Sys2Proof Sys2Proof.Machine Sys2Proof.Claims

namespace Sys2Proof

/-! ### `CK_INIT` by algorithm (40_checksum.md R68) -/

theorem Config.ckInit_of_xor8 {c : Config} (h : c.ckAlg = .xor8) : c.ckInit = 0x00 := by simp only [Config.ckInit, h]

theorem Config.ckInit_of_add8 {c : Config} (h : c.ckAlg = .add8) : c.ckInit = 0x00 := by simp only [Config.ckInit, h]

theorem Config.ckInit_of_crc8 {c : Config} {poly init : Byte} (h : c.ckAlg = .crc8 poly init) : c.ckInit = init := by
  simp only [Config.ckInit, h]

/-! ### The arithmetic of the steps (40_checksum.md R70 to R72) -/

theorem ckStepAdd8_eq_ofNat (a v : Byte) : ckStepAdd8 a v = BitVec.ofNat 8 ((a.toNat + v.toNat) % 256) :=
  BitVec.eq_of_toNat_eq (by simp [ckStepAdd8])

theorem getLsbD_seven_eq_decide (a : Byte) : a.getLsbD 7 = decide (128 ≤ a.toNat) := BitVec.msb_eq_decide a

theorem shiftLeft_one_eq_ofNat (a : Byte) : a <<< 1 = BitVec.ofNat 8 (2 * a.toNat % 256) :=
  BitVec.eq_of_toNat_eq (by simp [Nat.shiftLeft_eq, Nat.mul_comm])

theorem crcBit_of_top_set {a : Byte} (h : a.getLsbD 7 = true) (poly : Byte) : crcBit poly a = (a <<< 1) ^^^ poly :=
  if_pos h

theorem crcBit_of_top_clear {a : Byte} (h : a.getLsbD 7 = false) (poly : Byte) : crcBit poly a = a <<< 1 :=
  if_neg (by simp only [h, Bool.false_eq_true, not_false_eq_true])

theorem crcBit_eq_ofNat (poly a : Byte) :
    crcBit poly a
      = if 128 ≤ a.toNat then BitVec.ofNat 8 (2 * a.toNat % 256) ^^^ poly else BitVec.ofNat 8 (2 * a.toNat % 256) := by
  simp only [crcBit, getLsbD_seven_eq_decide, decide_eq_true_eq, shiftLeft_one_eq_ofNat]

theorem crcBits_eq_iterate (poly : Byte) (n : Nat) (a : Byte) : crcBits poly n a = (crcBit poly)^[n] a := by
  induction n generalizing a with
  | zero => rfl
  | succ n ih => exact ih _

theorem ckStepCrc8_eq_iterate (poly a v : Byte) : ckStepCrc8 poly a v = (crcBit poly)^[8] (a ^^^ v) :=
  crcBits_eq_iterate ..

/-! ### `CK_STEP` is a bijection in each argument (40_checksum.md R76) -/

/-- 00_scope.md R11 item 4. -/
theorem Config.poly_getLsbD_zero {c : Config} (hc : c.wf = true) {poly init : Byte} (h : c.ckAlg = .crc8 poly init) :
    poly.getLsbD 0 = true := by
  simp only [Config.wf, h, CkAlg.wf, Bool.and_eq_true] at hc
  exact hc.2

/-- The shift leaves bit 0 clear and `POLY` sets it, so it tells whether `POLY` was added. -/
theorem crcBit_getLsbD_zero {poly : Byte} (hpoly : poly.getLsbD 0 = true) (a : Byte) :
    (crcBit poly a).getLsbD 0 = a.getLsbD 7 := by
  cases h : a.getLsbD 7 with
  | true => rw [crcBit_of_top_set h, BitVec.getLsbD_xor, hpoly, BitVec.getLsbD_shiftLeft]; rfl
  | false => rw [crcBit_of_top_clear h, BitVec.getLsbD_shiftLeft]; rfl

/-- The shift loses bit 7 alone. -/
theorem eq_of_shiftLeft_one_eq {a b : Byte} (htop : a.getLsbD 7 = b.getLsbD 7) (hlow : a <<< 1 = b <<< 1) : a = b := by
  simp only [getLsbD_seven_eq_decide, decide_eq_decide] at htop
  bv_omega

theorem crcBit_injective {poly : Byte} (hpoly : poly.getLsbD 0 = true) : Function.Injective (crcBit poly) := by
  intro a b h
  have htop : a.getLsbD 7 = b.getLsbD 7 := by
    rw [← crcBit_getLsbD_zero hpoly a, h, crcBit_getLsbD_zero hpoly b]
  refine eq_of_shiftLeft_one_eq htop ?_
  cases hb : b.getLsbD 7 with
  | true =>
    rw [crcBit_of_top_set (htop.trans hb), crcBit_of_top_set hb] at h
    exact (BitVec.xor_left_inj poly).mp h
  | false => rwa [crcBit_of_top_clear (htop.trans hb), crcBit_of_top_clear hb] at h

theorem ckStepCrc8_injective {poly : Byte} (hpoly : poly.getLsbD 0 = true) (a : Byte) :
    Function.Injective (ckStepCrc8 poly a) := by
  intro v w h
  rw [ckStepCrc8_eq_iterate, ckStepCrc8_eq_iterate] at h
  exact (BitVec.xor_right_inj a).mp ((crcBit_injective hpoly).iterate 8 h)

theorem Config.ckStep_comm (c : Config) (a v : Byte) : c.ckStep a v = c.ckStep v a := by
  cases h : c.ckAlg with
  | xor8 => simp only [c.ckStep_of_xor8 h, ckStepXor8, BitVec.xor_comm]
  | add8 => simp only [c.ckStep_of_add8 h, ckStepAdd8, BitVec.add_comm]
  | crc8 poly init => simp only [c.ckStep_of_crc8 h, ckStepCrc8, BitVec.xor_comm]

theorem Config.ckStep_injective {c : Config} (hc : c.wf = true) (a : Byte) : Function.Injective (c.ckStep a) := by
  intro v w h
  cases halg : c.ckAlg with
  | xor8 =>
    rw [c.ckStep_of_xor8 halg, c.ckStep_of_xor8 halg] at h
    exact (BitVec.xor_right_inj a).mp h
  | add8 =>
    rw [c.ckStep_of_add8 halg, c.ckStep_of_add8 halg] at h
    exact (BitVec.add_right_inj a).mp h
  | crc8 poly init =>
    rw [c.ckStep_of_crc8 halg, c.ckStep_of_crc8 halg] at h
    exact ckStepCrc8_injective (c.poly_getLsbD_zero hc halg) a h

theorem Config.ckStep_bijective {c : Config} (hc : c.wf = true) (a : Byte) : Function.Bijective (c.ckStep a) :=
  have : Finite Byte := .of_injective _ BitVec.toFin_injective
  (c.ckStep_injective hc a).bijective_of_finite

theorem Config.ckStep_bijective_left {c : Config} (hc : c.wf = true) (v : Byte) :
    Function.Bijective fun a => c.ckStep a v := by
  simpa only [c.ckStep_comm _ v] using c.ckStep_bijective hc v

/-! ### Sequences that differ in one byte -/

/-- What a fold starts from can be told from what it ends in. -/
theorem Config.ckFoldFrom_injective {c : Config} (hc : c.wf = true) (p : List Byte) :
    Function.Injective fun a => c.ckFoldFrom a p := by
  induction p with
  | nil => exact Function.injective_id
  | cons v p ih => exact ih.comp (c.ckStep_bijective_left hc v).injective

theorem Config.ckFold_append_singleton_append (c : Config) (p q : List Byte) (v : Byte) :
    c.ckFold (p ++ [v] ++ q) = c.ckFoldFrom (c.ckStep (c.ckFold p) v) q := by
  rw [← c.ckFold_append_singleton]
  exact c.ckFoldFrom_append ..

/-- Settles O7: `CK_STEP` is injective in each argument, and `crc_bit` is because bit 0 of `POLY` is 1. The two sequences
come to the changed byte with one accumulator, leave it with two, and no later byte brings them together. -/
theorem checksumSeesEveryOneByteChange : Obligations.ChecksumSeesEveryOneByteChange := by
  intro c hc
  refine ⟨c.ckStep_bijective hc, c.ckStep_bijective_left hc, fun p q v w hvw h => hvw ?_⟩
  rw [c.ckFold_append_singleton_append, c.ckFold_append_singleton_append] at h
  exact c.ckStep_injective hc _ (c.ckFoldFrom_injective hc q h)

end Sys2Proof

namespace Sys2Proof.Machine

/-! ### The rows (40_checksum.md R68 to R73) -/

theorem exec_ckUpdateXor8 (a : Accumulator) (v : Byte) (s : State) :
    exec (.ckUpdateXor8 a v) s = .next (s.withAcc a (s.readAcc a ^^^ v)) := rfl

theorem exec_ckUpdateAdd8 (a : Accumulator) (v : Byte) (s : State) :
    exec (.ckUpdateAdd8 a v) s = .next (s.withAcc a (BitVec.ofNat 8 (((s.readAcc a).toNat + v.toNat) % 256))) := by
  rw [← ckStepAdd8_eq_ofNat]
  rfl

theorem exec_ckUpdateCrc8 (a : Accumulator) (poly v : Byte) (s : State) :
    exec (.ckUpdateCrc8 a poly v) s = .next (s.withAcc a ((crcBit poly)^[8] (s.readAcc a ^^^ v))) := by
  rw [← ckStepCrc8_eq_iterate]
  rfl

/-- Settles O3: the row writes `CK_INIT`, which `CK_ALG` selects. -/
theorem ckInitSetsTheInitialValue : Obligations.CkInitSetsTheInitialValue := fun _ => ⟨rfl, rfl⟩

/-- Settles O4: the two rows, on each accumulator. -/
theorem ckUpdateXorAndAdd : Obligations.CkUpdateXorAndAdd := fun s v =>
  ⟨exec_ckUpdateXor8 .rx v s, exec_ckUpdateXor8 .tx v s, exec_ckUpdateAdd8 .rx v s, exec_ckUpdateAdd8 .tx v s⟩

/-- Settles O5: `crc_bit` on numbers, and the row on each accumulator. -/
theorem crcShiftsEightTimes : Obligations.CrcShiftsEightTimes := fun s poly a v =>
  ⟨crcBit_eq_ofNat poly a, ⟨_, rfl, s.withResult_frame _, rfl⟩, exec_ckUpdateCrc8 .rx poly v s,
    exec_ckUpdateCrc8 .tx poly v s⟩

/-! ### The row of the algorithm `CK_ALG` selects is `CK_STEP` -/

theorem exec_ckUpdateXor8_eq_ckStep {s : State} (h : s.cfg.ckAlg = .xor8) (a : Accumulator) (v : Byte) :
    exec (.ckUpdateXor8 a v) s = .next (s.withAcc a (s.cfg.ckStep (s.readAcc a) v)) := by
  rw [s.cfg.ckStep_of_xor8 h]
  rfl

theorem exec_ckUpdateAdd8_eq_ckStep {s : State} (h : s.cfg.ckAlg = .add8) (a : Accumulator) (v : Byte) :
    exec (.ckUpdateAdd8 a v) s = .next (s.withAcc a (s.cfg.ckStep (s.readAcc a) v)) := by
  rw [s.cfg.ckStep_of_add8 h]
  rfl

theorem exec_ckUpdateCrc8_eq_ckStep {s : State} {poly init : Byte} (h : s.cfg.ckAlg = .crc8 poly init)
    (a : Accumulator) (v : Byte) :
    exec (.ckUpdateCrc8 a poly v) s = .next (s.withAcc a (s.cfg.ckStep (s.readAcc a) v)) := by
  rw [s.cfg.ckStep_of_crc8 h]
  rfl

theorem exec_ckFold (p : List Byte) (s : State) :
    exec (.ckFold p) s = .next (s.withResult (.byte (foldOf s.cfg p))) := by
  rw [← ckFold_eq_foldOf]
  rfl

/-- Settles O6, by the three algorithms, and the fold as a fold. -/
theorem ckFoldUpdatesByteByByte : Obligations.CkFoldUpdatesByteByByte := by
  intro s p a v
  refine ⟨fun h => ?_, fun h => ?_, fun poly init h => ?_, ⟨_, exec_ckFold p s, s.withResult_frame _, rfl⟩,
    ckFold_eq_foldOf s.cfg p, s.cfg.ckFold_nil, s.cfg.ckFold_append_singleton p v⟩
  · exact ⟨Config.ckInit_of_xor8 h, s.cfg.ckStep_of_xor8 h a v, exec_ckUpdateXor8_eq_ckStep h .rx v,
      exec_ckUpdateXor8_eq_ckStep h .tx v⟩
  · exact ⟨Config.ckInit_of_add8 h, (s.cfg.ckStep_of_add8 h a v).trans (ckStepAdd8_eq_ofNat a v),
      exec_ckUpdateAdd8_eq_ckStep h .rx v, exec_ckUpdateAdd8_eq_ckStep h .tx v⟩
  · exact ⟨Config.ckInit_of_crc8 h, (s.cfg.ckStep_of_crc8 h a v).trans (ckStepCrc8_eq_iterate poly a v),
      exec_ckUpdateCrc8_eq_ckStep h .rx v, exec_ckUpdateCrc8_eq_ckStep h .tx v⟩

end Sys2Proof.Machine
end

section
/-! Proofs about the frame encoder TX (41_encoder.md): what each input does to it, the ways back to `Idle`, the bytes of a
frame, and that the machine emits exactly these. -/

open Sys2Proof Sys2Proof.Machine Sys2Proof.Claims

namespace Sys2Proof

/-! ### The stuffed bytes (30_encoding.md R55 to R57) -/

theorem Config.isReserved_eq_decide (c : Config) :
    c.isReserved = fun v => decide (v = c.start ∨ v = c.stop ∨ v = c.esc) := by
  funext v
  rw [Bool.eq_iff_iff, decide_eq_true_eq, c.isReserved_iff]

/-- An escape sequence has two bytes and a plain byte is one, so the length tells the two forms apart. -/
theorem Config.stuff_injective (c : Config) : Function.Injective c.stuff := by
  intro v w h
  cases hv : c.isReserved v <;> cases hw : c.isReserved w
  · simpa [Config.stuff_of_not_reserved, hv, hw] using h
  · simp [Config.stuff_of_not_reserved hv, Config.stuff_of_reserved hw] at h
  · simp [Config.stuff_of_reserved hv, Config.stuff_of_not_reserved hw] at h
  · simpa [Config.stuff_of_reserved, hv, hw] using h

theorem Config.stuffAll_append (c : Config) (p q : List Byte) : c.stuffAll (p ++ q) = c.stuffAll p ++ c.stuffAll q := by
  simp only [stuffAll_eq_flatMap, List.flatMap_append]

theorem Config.stuffAll_singleton (c : Config) (v : Byte) : c.stuffAll [v] = c.stuff v := List.append_nil _

theorem Config.isMarker_eq_false_of_not_reserved {c : Config} {b : Byte} (h : c.isReserved b = false) :
    c.isMarker b = false := (Config.isReserved_eq_false_iff.mp h).2

theorem Config.isMarker_esc {c : Config} (hc : c.wf = true) : c.isMarker c.esc = false :=
  Bool.eq_false_iff.mpr fun h => Config.ne_esc_of_isMarker hc h rfl

theorem Config.enc_ne_esc {c : Config} (hc : c.wf = true) {v : Byte} (hv : c.isReserved v = true) : c.enc v ≠ c.esc :=
  (Config.isReserved_eq_false_iff.mp (Config.isReserved_enc hc hv)).1

theorem Config.isMarker_of_mem_stuff {c : Config} (hc : c.wf = true) {v b : Byte} (hb : b ∈ c.stuff v) :
    c.isMarker b = false := by
  cases hv : c.isReserved v with
  | true =>
    rw [Config.stuff_of_reserved hv, List.mem_pair] at hb
    rcases hb with rfl | rfl
    · exact Config.isMarker_esc hc
    · exact Config.isMarker_eq_false_of_not_reserved (Config.isReserved_enc hc hv)
  | false =>
    rw [Config.stuff_of_not_reserved hv, List.mem_singleton] at hb
    exact hb ▸ Config.isMarker_eq_false_of_not_reserved hv

theorem Config.isMarker_of_mem_stuffAll {c : Config} (hc : c.wf = true) {q : List Byte} {b : Byte}
    (hb : b ∈ c.stuffAll q) : c.isMarker b = false := by
  rw [stuffAll_eq_flatMap, List.mem_flatMap] at hb
  obtain ⟨v, -, hb⟩ := hb
  exact Config.isMarker_of_mem_stuff hc (stuff_eq_stuffed c v ▸ hb)

/-- Behind each `ESC` of stuffed bytes stands the escaped form of a reserved value. -/
theorem Config.stuffAll_after_esc {c : Config} (hc : c.wf = true) (q : List Byte) {i : Nat}
    (hi : (c.stuffAll q)[i]? = some c.esc) :
    ∃ v, c.isReserved v = true ∧ (c.stuffAll q)[i + 1]? = some (c.enc v) := by
  induction q generalizing i with
  | nil => cases hi
  | cons v q ih =>
    rw [Config.stuffAll] at hi ⊢
    cases hv : c.isReserved v with
    | true =>
      rw [Config.stuff_of_reserved hv] at hi ⊢
      match i, hi with
      | 0, _ => exact ⟨v, hv, rfl⟩
      | 1, hi => exact absurd (Option.some.inj hi) (Config.enc_ne_esc hc hv)
      | i + 2, hi => exact ih hi
    | false =>
      rw [Config.stuff_of_not_reserved hv] at hi ⊢
      match i, hi with
      | 0, hi => exact absurd (Option.some.inj hi) (Config.isReserved_eq_false_iff.mp hv).1
      | i + 1, hi => exact ih hi

theorem Config.count_esc_stuff {c : Config} (hc : c.wf = true) (v : Byte) :
    (c.stuff v).count c.esc = if c.isReserved v then 1 else 0 := by
  cases hv : c.isReserved v with
  | true => simp [Config.stuff_of_reserved hv, Config.enc_ne_esc hc hv]
  | false => simp [Config.stuff_of_not_reserved hv, (Config.isReserved_eq_false_iff.mp hv).1]

theorem Config.length_stuff (c : Config) (v : Byte) : (c.stuff v).length = 1 + if c.isReserved v then 1 else 0 := by
  cases hv : c.isReserved v with
  | true => simp [Config.stuff_of_reserved hv]
  | false => simp [Config.stuff_of_not_reserved hv]

theorem Config.count_esc_stuffAll {c : Config} (hc : c.wf = true) (p : List Byte) :
    (c.stuffAll p).count c.esc = p.countP c.isReserved := by
  induction p with
  | nil => rfl
  | cons v p ih => rw [Config.stuffAll, List.count_append, ih, Config.count_esc_stuff hc, List.countP_cons, Nat.add_comm]

theorem Config.length_stuffAll (c : Config) (p : List Byte) :
    (c.stuffAll p).length = p.length + p.countP c.isReserved := by
  induction p with
  | nil => rfl
  | cons v p ih =>
    rw [Config.stuffAll, List.length_append, ih, c.length_stuff, List.countP_cons, List.length_cons]
    omega

end Sys2Proof

namespace Sys2Proof.Machine

/-! ### `Send` (41_encoder.md R79) -/

theorem txOnSend_of_busy {c : Config} {t : TxRegs} (hs : t.state ≠ .idle) (p : List Byte) :
    txOnSend c t p = .ok ⟨t, none, .txError .txBusy⟩ := if_pos hs

theorem txOnSend_of_gt {c : Config} {t : TxRegs} {p : List Byte} (hs : t.state = .idle)
    (hp : p.length > c.maxPayload) : txOnSend c t p = .ok ⟨t, none, .txError .payloadTooLarge⟩ := by
  rw [txOnSend, if_neg (not_not.mpr hs), if_pos hp]

theorem txOnSend_of_le {c : Config} {t : TxRegs} {p : List Byte} (hs : t.state = .idle)
    (hp : p.length ≤ c.maxPayload) : txOnSend c t p = .ok ⟨t.load c p, none, .none⟩ := by
  rw [txOnSend, if_neg (not_not.mpr hs), if_neg (Nat.not_lt.mpr hp)]

theorem exec_txSend_eq {s : State} {p : List Byte} {o : TxOut} (h : txOnSend s.cfg s.tx p = .ok o) :
    exec (.txSend p) s = .next (s.withTx o) := State.stepTx_next.mpr ⟨o, h, rfl⟩

theorem TxRegs.toNat_load_len {c : Config} (hc : c.wf = true) (t : TxRegs) {p : List Byte}
    (hp : p.length ≤ c.maxPayload) : (t.load c p).len.toNat = p.length := by
  have hmax : c.maxPayload ≤ 255 := Config.maxPayload_le hc
  rw [TxRegs.load_len, BitVec.toNat_ofNat, Nat.mod_eq_of_lt (by omega)]

/-- Loading writes the payload over the buffer's first elements and leaves those beyond it. -/
theorem TxRegs.read_load (c : Config) (t : TxRegs) (p : List Byte) (i : Nat) :
    (t.load c p).read i = (p[i]?).getD (t.read i) := by
  simp only [TxRegs.read, TxRegs.load_buf, TxRegs.load_epoch, Memory.read?_writeFrom, Nat.zero_le, true_and,
    Nat.zero_add, Nat.sub_zero]
  split_ifs with hi
  · simp [hi]
  · simp [Nat.le_of_not_lt hi]

/-- Settles O9, by the three arms in the order of their tests. -/
theorem sendLoadsOrRefuses : Obligations.SendLoadsOrRefuses := by
  intro s p hc
  by_cases hs : s.tx.state = .idle
  · by_cases hp : p.length > s.cfg.maxPayload
    · refine ⟨_, exec_txSend_eq (txOnSend_of_gt hs hp), s.withTx_frame _, rfl, ?_⟩
      rw [if_neg (not_not.mpr hs), if_pos hp]
      exact ⟨rfl, rfl⟩
    · have hle : p.length ≤ s.cfg.maxPayload := Nat.le_of_not_lt hp
      refine ⟨_, exec_txSend_eq (txOnSend_of_le hs hle), s.withTx_frame _, rfl, ?_⟩
      rw [if_neg (not_not.mpr hs), if_neg hp]
      exact ⟨rfl, rfl, s.tx.toNat_load_len hc hle, rfl, ckFold_eq_foldOf s.cfg p, rfl, s.tx.read_load s.cfg p⟩
  · refine ⟨_, exec_txSend_eq (txOnSend_of_busy hs p), s.withTx_frame _, rfl, ?_⟩
    rw [if_pos hs]
    exact ⟨rfl, rfl⟩

/-! ### `WriteError` (41_encoder.md R89) -/

theorem txOnWriteError_of_idle {t : TxRegs} (hs : t.state = .idle) : txOnWriteError t = .ok ⟨t, none, .none⟩ :=
  if_pos hs

theorem txOnWriteError_of_not_idle {t : TxRegs} (hs : t.state ≠ .idle) :
    txOnWriteError t = .ok ⟨{ t with state := .idle }, none, .txError .transportError⟩ := if_neg hs

theorem exec_txWerr_eq {s : State} {o : TxOut} (h : txOnWriteError s.tx = .ok o) :
    exec .txWerr s = .next (s.withTx o) := State.stepTx_next.mpr ⟨o, h, rfl⟩

/-- Settles O13, by whether there is a frame in hand. -/
theorem writeErrorAbandonsTheFrame : Obligations.WriteErrorAbandonsTheFrame := by
  intro s _
  by_cases hs : s.tx.state = .idle
  · refine ⟨_, exec_txWerr_eq (txOnWriteError_of_idle hs), s.withTx_frame _, rfl, ?_⟩
    rw [if_pos hs]
    exact ⟨rfl, rfl⟩
  · refine ⟨_, exec_txWerr_eq (txOnWriteError_of_not_idle hs), s.withTx_frame _, rfl, ?_⟩
    rw [if_neg hs]
    exact ⟨rfl, rfl⟩

/-! ### `Take`, state by state (41_encoder.md R80 to R88) -/

theorem txTake_idle {c : Config} {t : TxRegs} (hs : t.state = .idle) : txTake c t = .ok ⟨t, none, .none⟩ := by
  simp only [txTake, hs, txIdle]

theorem txTake_emitStart {c : Config} {t : TxRegs} (hs : t.state = .emitStart) :
    txTake c t = .ok ⟨{ t with state := .emitLen }, some c.start, .none⟩ := by
  simp only [txTake, hs, txEmitStart]

theorem txTake_emitLen {c : Config} {t : TxRegs} (hs : t.state = .emitLen) :
    txTake c t = .ok ⟨{ t with state := if t.len = 0 then .emitCk else .emitData }, some t.len, .none⟩ := by
  simp only [txTake, hs, txEmitLen]

theorem txTake_emitData_of_reserved {c : Config} {t : TxRegs} (hs : t.state = .emitData)
    (hidx : t.idx.toNat < c.maxPayload) (hv : c.isReserved (t.read t.idx.toNat) = true) :
    txTake c t = .ok ⟨{ t with state := .emitDataEsc2 }, some c.esc, .none⟩ := by
  simp only [txTake, hs, txEmitData, TxRegs.current_ok.mpr ⟨hidx, rfl⟩, txEmitDataByte, hv, if_true]

theorem txTake_emitData_of_not_reserved {c : Config} {t : TxRegs} (hs : t.state = .emitData)
    (hidx : t.idx.toNat < c.maxPayload) (hv : c.isReserved (t.read t.idx.toNat) = false) :
    txTake c t = .ok ⟨t.advance, some (t.read t.idx.toNat), .none⟩ := by
  simp only [txTake, hs, txEmitData, TxRegs.current_ok.mpr ⟨hidx, rfl⟩, txEmitDataByte, hv, Bool.false_eq_true,
    if_false]

theorem txTake_emitDataEsc2 {c : Config} {t : TxRegs} (hs : t.state = .emitDataEsc2)
    (hidx : t.idx.toNat < c.maxPayload) :
    txTake c t = .ok ⟨t.advance, some (c.enc (t.read t.idx.toNat)), .none⟩ := by
  simp only [txTake, hs, txEmitDataEsc2, TxRegs.current_ok.mpr ⟨hidx, rfl⟩, Config.enc]

theorem txTake_emitCk_of_reserved {c : Config} {t : TxRegs} (hs : t.state = .emitCk) (hck : c.isReserved t.ck = true) :
    txTake c t = .ok ⟨{ t with state := .emitCkEsc2 }, some c.esc, .none⟩ := by
  simp only [txTake, hs, txEmitCk, hck, if_true]

theorem txTake_emitCk_of_not_reserved {c : Config} {t : TxRegs} (hs : t.state = .emitCk)
    (hck : c.isReserved t.ck = false) : txTake c t = .ok ⟨{ t with state := .emitStop }, some t.ck, .none⟩ := by
  simp only [txTake, hs, txEmitCk, hck, Bool.false_eq_true, if_false]

theorem txTake_emitCkEsc2 {c : Config} {t : TxRegs} (hs : t.state = .emitCkEsc2) :
    txTake c t = .ok ⟨{ t with state := .emitStop }, some (c.enc t.ck), .none⟩ := by
  simp only [txTake, hs, txEmitCkEsc2, Config.enc]

theorem txTake_emitStop {c : Config} {t : TxRegs} (hs : t.state = .emitStop) :
    txTake c t = .ok ⟨{ t with state := .idle }, some c.stop, .txDone⟩ := by
  simp only [txTake, hs, txEmitStop]

/-- `Take` is one input, whichever state's row it is given as. -/
theorem exec_txRow_take_eq (q : TxState) {s : State} {o : TxOut} (h : txTake s.cfg s.tx = .ok o) :
    exec (txRow q .take) s = .next (s.withTx o) := exec_txRow_eq_next_iff.mpr ⟨o, h, rfl⟩

/-- Settles O10, one state after the other. -/
theorem takeEmitsMarkersAndLength : Obligations.TakeEmitsMarkersAndLength := by
  intro s _
  refine ⟨fun hs => ?_, fun hs => ?_, fun hs => ?_, fun hs => ?_⟩
  · exact ⟨_, exec_txRow_take_eq .idle (txTake_idle hs), s.withTx_frame _, rfl, rfl, rfl⟩
  · exact ⟨_, exec_txRow_take_eq .emitStart (txTake_emitStart hs), s.withTx_frame _, rfl, rfl, rfl⟩
  · exact ⟨_, exec_txRow_take_eq .emitLen (txTake_emitLen hs), s.withTx_frame _, rfl, rfl, rfl⟩
  · exact ⟨_, exec_txRow_take_eq .emitStop (txTake_emitStop hs), s.withTx_frame _, rfl, rfl, rfl⟩

/-- Settles O11: in `EmitData` by whether the byte is reserved. -/
theorem takeEmitsPayloadStuffed : Obligations.TakeEmitsPayloadStuffed := by
  intro s _ hidx
  refine ⟨fun hs => ?_, fun hs => ?_⟩
  · by_cases hv : Reserved s.cfg (s.tx.read s.tx.idx.toNat)
    · have htake := txTake_emitData_of_reserved hs hidx ((isReserved_iff_reserved _ _).mpr hv)
      exact ⟨_, exec_txRow_take_eq .emitData htake, s.withTx_frame _, rfl, fun _ => ⟨rfl, rfl⟩, fun hn => absurd hv hn⟩
    · have htake := txTake_emitData_of_not_reserved hs hidx (isReserved_eq_false hv)
      exact ⟨_, exec_txRow_take_eq .emitData htake, s.withTx_frame _, rfl, fun hr => absurd hr hv, fun _ => ⟨rfl, rfl⟩⟩
  · exact ⟨_, exec_txRow_take_eq .emitDataEsc2 (txTake_emitDataEsc2 hs hidx), s.withTx_frame _, rfl, rfl, rfl⟩

/-- Settles O12: in `EmitCk` by whether the checksum is reserved. -/
theorem takeEmitsChecksumStuffed : Obligations.TakeEmitsChecksumStuffed := by
  intro s _
  refine ⟨fun hs => ?_, fun hs => ?_⟩
  · by_cases hck : Reserved s.cfg s.tx.ck
    · have htake := txTake_emitCk_of_reserved hs ((isReserved_iff_reserved _ _).mpr hck)
      exact ⟨_, exec_txRow_take_eq .emitCk htake, s.withTx_frame _, rfl, fun _ => ⟨rfl, rfl⟩, fun hn => absurd hck hn⟩
    · have htake := txTake_emitCk_of_not_reserved hs (isReserved_eq_false hck)
      exact ⟨_, exec_txRow_take_eq .emitCk htake, s.withTx_frame _, rfl, fun hr => absurd hr hck, fun _ => ⟨rfl, rfl⟩⟩
  · exact ⟨_, exec_txRow_take_eq .emitCkEsc2 (txTake_emitCkEsc2 hs), s.withTx_frame _, rfl, rfl, rfl⟩

/-- Settles O14: `advance` is that update of two registers. -/
theorem advanceCountsOneByte : Obligations.AdvanceCountsOneByte :=
  fun s _ => ⟨_, rfl, s.withTx_frame _, rfl, rfl, rfl⟩

/-! ### The ways back to `Idle` (41_encoder.md R90) -/

theorem TxRegs.advance_state_ne_idle (t : TxRegs) : t.advance.state ≠ .idle := by
  rw [TxRegs.advance_state]
  split <;> exact nofun

/-- `Take` leaves TX out of `Idle` and raises nothing, except where it ends the frame. -/
theorem txTake_idle_or_done {c : Config} {t : TxRegs} {o : TxOut} (h : txTake c t = .ok o) :
    (o.event = .none ∧ (o.regs.state = .idle → t.state = .idle))
    ∨ (t.state = .emitStop ∧ o = ⟨{ t with state := .idle }, some c.stop, .txDone⟩) := by
  rcases txTake_cases h with ⟨-, rfl⟩ | ⟨-, rfl⟩ | ⟨-, rfl⟩ | ⟨-, -, -, rfl⟩ | ⟨-, -, -, rfl⟩ | ⟨-, -, rfl⟩
    | ⟨-, -, rfl⟩ | ⟨-, -, rfl⟩ | ⟨-, rfl⟩ | hstop
  · exact .inl ⟨rfl, id⟩
  · exact .inl ⟨rfl, nofun⟩
  · refine .inl ⟨rfl, fun hidle => ?_⟩
    dsimp only at hidle
    split at hidle <;> cases hidle
  · exact .inl ⟨rfl, nofun⟩
  · exact .inl ⟨rfl, fun hidle => absurd hidle t.advance_state_ne_idle⟩
  · exact .inl ⟨rfl, fun hidle => absurd hidle t.advance_state_ne_idle⟩
  · exact .inl ⟨rfl, nofun⟩
  · exact .inl ⟨rfl, nofun⟩
  · exact .inl ⟨rfl, nofun⟩
  · exact .inr hstop

/-- `Send` never ends a frame: a TX out of `Idle` refuses it, and an idle one loads or refuses it. -/
theorem txOnSend_not_done {c : Config} {t : TxRegs} {p : List Byte} {o : TxOut} (h : txOnSend c t p = .ok o) :
    o.event ≠ .txDone ∧ (o.regs.state = .idle → t.state = .idle) := by
  unfold txOnSend at h
  split at h
  · cases h
    exact ⟨nofun, id⟩
  · split at h <;> cases h
    · exact ⟨nofun, id⟩
    · exact ⟨nofun, nofun⟩

theorem txOnWriteError_not_done {t : TxRegs} {o : TxOut} (h : txOnWriteError t = .ok o) :
    o.event ≠ .txDone ∧ (t.state ≠ .idle → o.event = .txError .transportError) := by
  unfold txOnWriteError at h
  split at h <;> cases h
  · rename_i hs
    exact ⟨nofun, fun hn => absurd hs hn⟩
  · exact ⟨nofun, fun _ => rfl⟩

/-- The procedures called on their own raise no TX event and leave TX in `Idle` only where it was: `advance` is the one
of them that writes `tx_state`. -/
theorem exec_internal_keeps_tx_busy {s t : State} {i : Instr} (hf : i.format = .internal) (h : exec i s = .next t) :
    t.txEvent = .none ∧ (t.tx.state = .idle → s.tx.state = .idle) := by
  have hacc (a : Accumulator) (v : Byte) :
      (s.withAcc a v).txEvent = .none ∧ ((s.withAcc a v).tx.state = .idle → s.tx.state = .idle) := by
    cases a <;> exact ⟨rfl, id⟩
  cases i <;> simp only [Instr.format, reduceCtorEq] at hf
  case ckInit a => cases h; exact hacc a _
  case ckUpdateXor8 a v => cases h; exact hacc a _
  case ckUpdateAdd8 a v => cases h; exact hacc a _
  case ckUpdateCrc8 a poly v => cases h; exact hacc a _
  case crcBit poly a => cases h; exact ⟨rfl, id⟩
  case ckFold p => cases h; exact ⟨rfl, id⟩
  case clear => cases h; exact ⟨rfl, id⟩
  case resync b cause => cases h; exact ⟨rfl, id⟩
  case store v => obtain ⟨r, e, -, rfl⟩ := State.stepRx_next.mp h; exact ⟨rfl, id⟩
  case done => obtain ⟨r, e, -, rfl⟩ := State.stepRx_next.mp h; exact ⟨rfl, id⟩
  case advance => cases h; exact ⟨rfl, fun hidle => absurd hidle s.tx.advance_state_ne_idle⟩

/-- Whatever is neither an input of TX nor `RESET` raises no TX event and does not bring TX to `Idle`. -/
theorem exec_txRow_or_reset_or_keeps_busy {s t : State} {i : Instr} (h : exec i s = .next t) :
    (∃ q w, i = txRow q w) ∨ i = .reset ∨ (t.txEvent = .none ∧ (t.tx.state = .idle → s.tx.state = .idle)) := by
  cases writes_of_exec h with
  | rx => exact .inr (.inr ⟨rfl, id⟩)
  | tx format =>
    rcases format with hf | ⟨hf, -⟩
    · rcases Instr.eq_txRow_or_reserved hf with hrow | rfl
      · exact .inl hrow
      · cases h
    · exact .inr (.inr (exec_internal_keeps_tx_busy hf h))
  | result => exact .inr (.inr ⟨rfl, id⟩)
  | expansion => exact .inr (.inr ⟨rfl, id⟩)
  | setn => exact .inr (.inr ⟨rfl, id⟩)
  | reset instr => exact .inr (.inl instr)

/-- Settles O15: among the inputs of TX, `Take` ends a frame in `EmitStop` alone, `WriteError` abandons it, and `Send`
does neither. -/
theorem onlyThreeWaysBackToIdle : Obligations.OnlyThreeWaysBackToIdle := by
  intro s t i h
  rcases exec_txRow_or_reset_or_keeps_busy h with ⟨q, w, rfl⟩ | rfl | ⟨hevent, hkeeps⟩
  · obtain ⟨o, ho, rfl⟩ := exec_txRow_eq_next_iff.mp h
    cases w with
    | send p =>
      obtain ⟨hevent, hkeeps⟩ := txOnSend_not_done ho
      exact ⟨fun hbusy hidle => absurd (hkeeps hidle) hbusy, fun hdone => absurd hdone hevent⟩
    | take =>
      rcases txTake_idle_or_done ho with ⟨hevent, hkeeps⟩ | ⟨hs, rfl⟩
      · exact ⟨fun hbusy hidle => absurd (hkeeps hidle) hbusy, fun hdone => nomatch hevent.symm.trans hdone⟩
      · exact ⟨fun _ _ => .inl ⟨rfl, rfl, hs⟩, fun _ => ⟨hs, rfl, rfl⟩⟩
    | writeError =>
      obtain ⟨hevent, herror⟩ := txOnWriteError_not_done ho
      exact ⟨fun hbusy _ => .inr (.inl ⟨herror hbusy, rfl⟩), fun hdone => absurd hdone hevent⟩
  · cases h
    exact ⟨fun _ _ => .inr (.inr rfl), nofun⟩
  · exact ⟨fun hbusy hidle => absurd (hkeeps hidle) hbusy, fun hdone => nomatch hevent.symm.trans hdone⟩

/-! ### `encode_frame` (41_encoder.md R77) -/

/-- Settles O8, by whether the payload has a frame. -/
theorem encodeFrameAnswersTheFrame : Obligations.EncodeFrameAnswersTheFrame := by
  intro s p _
  refine ⟨_, rfl, s.withResult_frame _, ?_⟩
  rw [State.withResult_result, frameResult]
  split_ifs with hp
  · rw [encodeFrame_of_gt hp]
  · rw [encodeFrame_of_le (Nat.le_of_not_lt hp)]

/-! ### The bytes of a frame (41_encoder.md R92 to R94) -/

/-- Settles O50: payload field and checksum field together are stuffed bytes, those of the payload and then its checksum;
each byte is stuffed to itself or to an escape sequence. -/
theorem framesHoldNoRawMarker : Obligations.FramesHoldNoRawMarker := by
  intro c p hc hp k e
  have hk : k = p.countP c.isReserved := by rw [c.isReserved_eq_decide]
  have he : e = if c.isReserved (c.ckFold p) then 1 else 0 := by simp only [c.isReserved_iff, ckFold_eq_foldOf, e]
  have hfields : c.stuffAll p ++ c.stuff (c.ckFold p) = c.stuffAll (p ++ [c.ckFold p]) := by
    rw [c.stuffAll_append, c.stuffAll_singleton]
  have hk_le : k ≤ p.length := List.countP_le_length
  have he_le : e ≤ 1 := by rw [he]; split <;> omega
  have hfield : (c.stuffAll p).length = p.length + k := hk ▸ c.length_stuffAll p
  have hck : (c.stuff (c.ckFold p)).length = 1 + e := he ▸ c.length_stuff _
  refine ⟨fun _ _ h => c.stuff_injective h, c.stuffAll p, c.stuff (c.ckFold p), ?_, fun b hb => ?_, fun i hi => ?_,
    hk ▸ Config.count_esc_stuffAll hc p, he ▸ Config.count_esc_stuff hc _, hfield, hck, ?_, by omega⟩
  · rw [encodeFrame_of_le hp, ← frameBytes_eq_frameOf]
    simp [frameBytes]
  · rw [hfields] at hb
    have hmarker := Config.isMarker_of_mem_stuffAll hc hb
    rwa [← Bool.not_eq_true, c.isMarker_iff, not_or] at hmarker
  · rw [hfields] at hi ⊢
    obtain ⟨v, hv, hnext⟩ := Config.stuffAll_after_esc hc _ hi
    exact ⟨v, (isReserved_iff_reserved c v).mp hv, hnext⟩
  · simp only [List.length_append, List.length_cons, List.length_nil, hfield, hck]
    omega

/-! ### The bytes TX still has to emit (41_encoder.md R91) -/

/-- Given `Take` after `Take`, TX emits these bytes, one per step: no step before the last raises an event, and the last
raises `TxDone` and leaves `Idle`. -/
inductive TxRegs.Emits (c : Config) : TxRegs → List Byte → Prop
  | last {t t' : TxRegs} {b : Byte} (step : txTake c t = .ok ⟨t', some b, .txDone⟩) (idle : t'.state = .idle) :
      TxRegs.Emits c t [b]
  | more {t t' : TxRegs} {b : Byte} {bs : List Byte} (step : txTake c t = .ok ⟨t', some b, .none⟩)
      (rest : TxRegs.Emits c t' bs) : TxRegs.Emits c t (b :: bs)

theorem TxRegs.emits_emitStop {c : Config} {t : TxRegs} (hs : t.state = .emitStop) : t.Emits c [c.stop] :=
  .last (txTake_emitStop hs) rfl

theorem TxRegs.emits_emitCk {c : Config} {t : TxRegs} (hs : t.state = .emitCk) :
    t.Emits c (c.stuff t.ck ++ [c.stop]) := by
  cases hck : c.isReserved t.ck with
  | true =>
    rw [Config.stuff_of_reserved hck]
    exact .more (txTake_emitCk_of_reserved hs hck) (.more (txTake_emitCkEsc2 rfl) (TxRegs.emits_emitStop rfl))
  | false =>
    rw [Config.stuff_of_not_reserved hck]
    exact .more (txTake_emitCk_of_not_reserved hs hck) (TxRegs.emits_emitStop rfl)

/-- One byte of the payload field, and then what is emitted after `advance`. -/
theorem TxRegs.emits_emitData {c : Config} {t : TxRegs} {bs : List Byte} (hs : t.state = .emitData)
    (hidx : t.idx.toNat < c.maxPayload) (hrest : t.advance.Emits c bs) :
    t.Emits c (c.stuff (t.read t.idx.toNat) ++ bs) := by
  cases hv : c.isReserved (t.read t.idx.toNat) with
  | true =>
    rw [Config.stuff_of_reserved hv]
    exact .more (txTake_emitData_of_reserved hs hidx hv) (.more (txTake_emitDataEsc2 rfl hidx) hrest)
  | false =>
    rw [Config.stuff_of_not_reserved hv]
    exact .more (txTake_emitData_of_not_reserved hs hidx hv) hrest

theorem TxRegs.getElem?_readUpTo (t : TxRegs) {i n : Nat} (h : i < n) : (t.readUpTo n)[i]? = some (t.read i) := by
  simp [TxRegs.readUpTo, h]

/-- The payload field from any byte on: `q₀` has been emitted, `q` has not. -/
theorem TxRegs.emits_payload {c : Config} {t : TxRegs} {q₀ q : List Byte} (hlen : t.len.toNat ≤ c.maxPayload)
    (hs : t.state = if t.idx = t.len then .emitCk else .emitData) (hread : t.readUpTo t.len.toNat = q₀ ++ q)
    (hidx : t.idx.toNat = q₀.length) : t.Emits c (c.stuffAll q ++ (c.stuff t.ck ++ [c.stop])) := by
  have htotal : t.len.toNat = q₀.length + q.length := by
    simpa [TxRegs.readUpTo] using congrArg List.length hread
  induction q generalizing t q₀ with
  | nil =>
    have hend : t.idx = t.len := BitVec.eq_of_toNat_eq (hidx.trans htotal.symm)
    exact TxRegs.emits_emitCk (hs.trans (if_pos hend))
  | cons v q ih =>
    rw [List.length_cons] at htotal
    have hmore : t.idx ≠ t.len := fun h => by rw [h] at hidx; omega
    have hnext : (t.idx + 1).toNat = t.idx.toNat + 1 := by bv_omega
    have hv : t.read t.idx.toNat = v := by
      have hget := t.getElem?_readUpTo (i := t.idx.toNat) (n := t.len.toNat) (by omega)
      simpa [hread, hidx] using hget.symm
    rw [Config.stuffAll, List.append_assoc, ← hv]
    refine TxRegs.emits_emitData (hs.trans (if_neg hmore)) (by omega) ?_
    exact ih (t := t.advance) (q₀ := q₀ ++ [v]) hlen rfl (hread.trans (List.append_cons q₀ v q))
      (by rw [TxRegs.advance_idx, hnext, hidx, List.length_append, List.length_singleton])
      (by rw [TxRegs.advance_len, htotal, List.length_append, List.length_singleton]; omega)

/-- What an accepted `Send` loads is emitted as its frame. -/
theorem TxRegs.emits_load {c : Config} (hc : c.wf = true) (t : TxRegs) {p : List Byte} (hp : p.length ≤ c.maxPayload) :
    (t.load c p).Emits c (frameOf c p) := by
  have hlen : (t.load c p).len.toNat = p.length := t.toNat_load_len hc hp
  have hread : (t.load c p).readUpTo (t.load c p).len.toNat = [] ++ p := by rw [hlen, t.readUpTo_load]; rfl
  rw [← frameBytes_eq_frameOf]
  simp only [frameBytes, List.append_assoc]
  refine .more (txTake_emitStart rfl) (.more (txTake_emitLen rfl) ?_)
  exact TxRegs.emits_payload (hlen.trans_le hp) (if_congr eq_comm rfl rfl) hread rfl

/-! ### The steps of the machine (41_encoder.md R91) -/

theorem step_of_txInput {s : State} {w : TxInput} {rest : List Input} {o : TxOut} (hc : s.cfg.wf = true)
    (hp : s.pending = .tx w :: rest) (ho : txStep s.cfg s.tx w = .ok o) :
    step s = .next ((s.taken rest).withTx o) := by
  rw [step_of_row hc hp rfl]
  exact exec_txRow_eq_next_iff.mpr ⟨o, ho, rfl⟩

theorem steps_succ {s t : State} (h : step s = .next t) (n : Nat) : steps (n + 1) s = steps n t := by
  simp only [steps, h]

/-- `t` is `s` after the emission of `bs` up to its byte `k`, the first being byte 0, before the inputs `rest`. -/
structure State.HasEmitted (s : State) (bs : List Byte) (rest : List Input) (k : Nat) (t : State) : Prop where
  wireOut : t.wireOut = s.wireOut ++ bs.take (k + 1)
  emitted : t.emitted = bs[k]?
  event : t.txEvent = if k + 1 = bs.length then .txDone else .none
  done : k + 1 = bs.length → t.tx.state = .idle ∧ t.pending = rest
  rx : t.rx = s.rx

/-- A byte emitted before `bs` counts as byte 0. -/
theorem State.HasEmitted.cons {s s' t : State} {b : Byte} {bs : List Byte} {rest : List Input} {k : Nat}
    (h : s'.HasEmitted bs rest k t) (hout : s'.wireOut = s.wireOut ++ [b]) (hrx : s'.rx = s.rx) :
    s.HasEmitted (b :: bs) rest (k + 1) t where
  wireOut := by rw [h.wireOut, hout, List.append_assoc]; rfl
  emitted := h.emitted
  event := by simp [h.event]
  done hlast := h.done (Nat.succ.inj hlast)
  rx := h.rx.trans hrx

theorem TxRegs.Emits.length_pos {c : Config} {tx : TxRegs} {bs : List Byte} (h : tx.Emits c bs) : 0 < bs.length := by
  cases h <;> exact Nat.succ_pos _

/-- Given as many `Take` as TX has bytes to emit, the machine emits them one by one. -/
theorem steps_of_emits {c : Config} {tx : TxRegs} {bs : List Byte} {rest : List Input} (h : tx.Emits c bs)
    (hc : c.wf = true) {s : State} (hp : s.pending = List.replicate bs.length (.tx .take) ++ rest) (hcfg : s.cfg = c)
    (htx : s.tx = tx) {k : Nat} (hk : k < bs.length) :
    ∃ t, steps (k + 1) s = .next t ∧ s.HasEmitted bs rest k t := by
  induction h generalizing s k with
  | last step idle =>
    subst hcfg htx
    obtain rfl : k = 0 := by simpa using hk
    exact ⟨_, steps_succ (step_of_txInput hc hp step) 0, rfl, rfl, rfl, fun _ => ⟨idle, rfl⟩, rfl⟩
  | @more _ _ b _ step hrest ih =>
    subst hcfg htx
    rw [steps_succ (step_of_txInput hc hp step)]
    cases k with
    | zero =>
      have hmore := hrest.length_pos.ne
      exact ⟨_, rfl, rfl, rfl, (if_neg fun h => hmore (Nat.succ.inj h)).symm,
        fun h => absurd (Nat.succ.inj h) hmore, rfl⟩
    | succ k =>
      obtain ⟨t, hsteps, ht⟩ :=
        ih (s := (s.taken _).withTx ⟨_, some b, .none⟩) rfl rfl rfl (Nat.lt_of_succ_lt_succ hk)
      exact ⟨t, hsteps, ht.cons rfl rfl⟩

/-- Settles O51: `Send` loads what TX then emits, and the machine emits it by as many `Take`; and the arm of `Send` that
refuses a payload tests what `encode_frame` tests. -/
theorem machineEmitsTheFrame : Obligations.MachineEmitsTheFrame := by
  intro s p rest hc hs
  refine ⟨fun hle hp k hk => ?_, fun t ht => ?_⟩
  · have hemits := s.tx.emits_load hc hle
    rw [steps_succ (step_of_txInput hc hp (txOnSend_of_le hs hle))]
    cases k with
    | zero =>
      have hmore := hemits.length_pos.ne
      exact ⟨_, rfl, rfl, rfl, (if_neg hmore).symm, fun h => absurd h hmore, rfl⟩
    | succ k =>
      obtain ⟨t, hsteps, ht⟩ := steps_of_emits (s := (s.taken _).withTx ⟨s.tx.load s.cfg p, none, .none⟩) hemits hc
        rfl rfl rfl (Nat.lt_of_succ_le hk)
      exact ⟨t, hsteps, by simpa using ht.wireOut, ht.emitted, ht.event, ht.done, ht.rx⟩
  · by_cases hp : p.length > s.cfg.maxPayload
    · cases (exec_txSend_eq (txOnSend_of_gt hs hp)).symm.trans ht
      exact iff_of_true rfl (encodeFrame_of_gt hp)
    · have hle : p.length ≤ s.cfg.maxPayload := Nat.le_of_not_lt hp
      cases (exec_txSend_eq (txOnSend_of_le hs hle)).symm.trans ht
      exact iff_of_false nofun (by rw [encodeFrame_of_le hle]; exact nofun)

end Sys2Proof.Machine
end

section
/-! Proofs about the receive parser RX (42_decoder.md): what each input does to it, state by state; that it accepts the
frames for `RX_N` and nothing else; that it finds its way back after garbage, damage, timeouts and sizes it does not
expect; and that it never hangs. -/

open Sys2Proof Sys2Proof.Machine Sys2Proof.Claims

namespace Sys2Proof

/-! ### Markers among the reserved values (00_scope.md R7) -/

@[simp] theorem Config.isMarker_start (c : Config) : c.isMarker c.start = true := by simp [Config.isMarker]

@[simp] theorem Config.isMarker_stop (c : Config) : c.isMarker c.stop = true := by simp [Config.isMarker]

theorem Config.isReserved_of_marker {c : Config} {b : Byte} (h : b = c.start ∨ b = c.stop) : c.isReserved b = true :=
  (c.isReserved_iff b).mpr (or_assoc.mp (.inl h))

theorem Config.isReserved_eq_false_of_ne {c : Config} {b : Byte} (hesc : b ≠ c.esc)
    (hmark : ¬ (b = c.start ∨ b = c.stop)) : c.isReserved b = false :=
  isReserved_eq_false fun h => (or_assoc.mpr h).elim hmark hesc

/-! ### Units of stuffed bytes (30_encoding.md R55 to R57) -/

section Units

variable {c : Config} {u u' x y : List Byte} {v v' w w' : Byte}

/-- The first unit of stuffed bytes can be told from what follows it. -/
theorem Config.stuff_append_inj {s t : List Byte} (h : c.stuff v ++ s = c.stuff v' ++ t) : v = v' ∧ s = t := by
  cases hv : c.isReserved v <;> cases hv' : c.isReserved v'
  · simpa [Config.stuff_of_not_reserved, hv, hv'] using h
  · rw [Config.stuff_of_not_reserved hv, Config.stuff_of_reserved hv'] at h
    exact absurd (List.cons.inj h).1 (Config.isReserved_eq_false_iff.mp hv).1
  · rw [Config.stuff_of_reserved hv, Config.stuff_of_not_reserved hv'] at h
    exact absurd (List.cons.inj h).1.symm (Config.isReserved_eq_false_iff.mp hv').1
  · simpa [Config.stuff_of_reserved, hv, hv'] using h

theorem Config.stuffAll_append_inj {s t : List Byte} (hlen : u.length = u'.length)
    (h : c.stuffAll u ++ s = c.stuffAll u' ++ t) : u = u' ∧ s = t := by
  induction u generalizing u' with
  | nil =>
    obtain rfl := List.length_eq_zero_iff.mp hlen.symm
    exact ⟨rfl, h⟩
  | cons v u ih =>
    obtain ⟨v', u', rfl⟩ := List.exists_cons_of_length_eq_add_one hlen.symm
    simp only [Config.stuffAll, List.append_assoc] at h
    obtain ⟨rfl, hrest⟩ := Config.stuff_append_inj h
    obtain ⟨rfl, rfl⟩ := ih (Nat.succ.inj hlen) hrest
    exact ⟨rfl, rfl⟩

/-- Each unit of stuffed bytes has one byte that is not `ESC`. -/
theorem Config.countP_ne_esc_stuffAll (hc : c.wf = true) (u : List Byte) :
    (c.stuffAll u).countP (· != c.esc) = u.length := by
  induction u with
  | nil => rfl
  | cons v u ih =>
    rw [Config.stuffAll, List.countP_append, ih, List.length_cons, Nat.add_comm]
    cases hv : c.isReserved v with
    | true => simp [Config.stuff_of_reserved hv, Config.enc_ne_esc hc hv]
    | false => simp [Config.stuff_of_not_reserved hv, (Config.isReserved_eq_false_iff.mp hv).1]

theorem Config.stuffAll_injective (hc : c.wf = true) : Function.Injective c.stuffAll := by
  intro u u' h
  have hlen : u.length = u'.length := by rw [← c.countP_ne_esc_stuffAll hc, h, c.countP_ne_esc_stuffAll hc]
  exact (Config.stuffAll_append_inj (s := []) (t := []) hlen (by rw [h])).1

/-- Stuffed bytes do not end in `ESC`, and no two `ESC` stand together in them. -/
theorem Config.after_esc (hc : c.wf = true) (h : c.stuffAll u = x ++ c.esc :: y) : ∃ b z, y = b :: z ∧ b ≠ c.esc := by
  obtain ⟨v, hv, hnext⟩ := Config.stuffAll_after_esc hc u (i := x.length) (by simp [h])
  cases y with
  | nil => simp [h] at hnext
  | cons b z =>
    obtain rfl : b = c.enc v := by simpa [h] using hnext
    exact ⟨_, z, rfl, Config.enc_ne_esc hc hv⟩

theorem Config.stuff_ends_at_ne_esc (hw : w ≠ c.esc) (h : c.stuff v = x ++ w :: y) : y = [] := by
  have hlen : (c.stuff v).length = x.length + (y.length + 1) := by rw [h, List.length_append, List.length_cons]
  cases hv : c.isReserved v with
  | true =>
    rw [Config.stuff_of_reserved hv] at h hlen
    cases x with
    | nil => exact absurd (List.cons.inj h).1.symm hw
    | cons a x => exact List.length_eq_zero_iff.mp (by simp only [List.length_cons, List.length_nil] at hlen; omega)
  | false =>
    rw [Config.stuff_of_not_reserved hv, List.length_singleton] at hlen
    exact List.length_eq_zero_iff.mp (by omega)

/-- A byte of stuffed bytes that is not `ESC` ends a unit. -/
theorem Config.stuffAll_eq_append_cons (hw : w ≠ c.esc) (h : c.stuffAll u = x ++ w :: y) :
    ∃ u₀ v u₁ e, u = u₀ ++ v :: u₁ ∧ x = c.stuffAll u₀ ++ e ∧ c.stuff v = e ++ [w] ∧ c.stuffAll u₁ = y := by
  induction u generalizing x with
  | nil => simp [Config.stuffAll] at h
  | cons v u ih =>
    have later {x' : List Byte} (hx : x = c.stuff v ++ x') (h' : c.stuffAll u = x' ++ w :: y) :
        ∃ u₀ v' u₁ e, v :: u = u₀ ++ v' :: u₁ ∧ x = c.stuffAll u₀ ++ e ∧ c.stuff v' = e ++ [w] ∧ c.stuffAll u₁ = y := by
      obtain ⟨u₀, v', u₁, e, rfl, rfl, hv', hy⟩ := ih h'
      exact ⟨v :: u₀, v', u₁, e, rfl, by rw [hx, Config.stuffAll, List.append_assoc], hv', hy⟩
    rcases List.append_eq_append_iff.mp h with ⟨x', hx, h'⟩ | ⟨b, hv, h'⟩
    · exact later hx h'
    · cases b with
      | nil => exact later (x' := []) (by rw [hv]; simp) h'.symm
      | cons b bs =>
        obtain ⟨rfl, rfl⟩ := List.cons.inj h'
        obtain rfl := Config.stuff_ends_at_ne_esc hw hv
        exact ⟨[], v, u, x, rfl, rfl, hv, rfl⟩

/-- Of as many units, stuffed bytes that differ in one byte are the stuffing of values that differ in one. -/
theorem Config.units_of_one_byte_change (hc : c.wf = true) (hlen : u.length = u'.length) (hne : w ≠ w')
    (h : c.stuffAll u = x ++ w :: y) (h' : c.stuffAll u' = x ++ w' :: y) :
    ∃ u₀ v v' u₁, v ≠ v' ∧ u = u₀ ++ v :: u₁ ∧ u' = u₀ ++ v' :: u₁ := by
  have hcount := c.countP_ne_esc_stuffAll hc u
  have hcount' := c.countP_ne_esc_stuffAll hc u'
  rw [h, List.countP_append, List.countP_cons] at hcount
  rw [h', List.countP_append, List.countP_cons] at hcount'
  have hsame : (if w != c.esc then 1 else 0) = (if w' != c.esc then 1 else 0) := by omega
  have hesc : w ≠ c.esc := by
    rintro rfl
    simp [hne.symm] at hsame
  have hesc' : w' ≠ c.esc := by
    rintro rfl
    simp [hne] at hsame
  obtain ⟨u₀, v, u₁, e, rfl, rfl, hv, rfl⟩ := Config.stuffAll_eq_append_cons hesc h
  obtain ⟨u₀', v', u₁', e', rfl, hx, hv', hy⟩ := Config.stuffAll_eq_append_cons hesc' h'
  obtain rfl := Config.stuffAll_injective hc hy
  obtain ⟨rfl, rfl⟩ := Config.stuffAll_append_inj (by simpa using hlen) hx
  refine ⟨u₀, v, v', u₁', fun heq => hne ?_, rfl, rfl⟩
  have hunit : e ++ [w] = e ++ [w'] := by rw [← hv, heq, hv']
  exact (List.cons.inj (List.append_cancel_left hunit)).1

end Units

/-! ### The fields of a frame -/

/-- The bytes of a frame whose payload has `n` bytes. -/
theorem frameOf_eq (c : Config) {n : Byte} {p : List Byte} (hp : p.length = n.toNat) :
    frameOf c p = c.start :: n :: (c.stuffAll p ++ (c.stuff (c.ckFold p) ++ [c.stop])) := by
  rw [← frameBytes_eq_frameOf, frameBytes, hp, BitVec.ofNat_toNat, BitVec.setWidth_eq]
  simp

/-- The values of the payload field and the checksum field, unit by unit. -/
def Config.fields (c : Config) (p : List Byte) : List Byte := p ++ [c.ckFold p]

theorem frameOf_eq_fields (c : Config) {n : Byte} {p : List Byte} (hp : p.length = n.toNat) :
    frameOf c p = c.start :: n :: (c.stuffAll (c.fields p) ++ [c.stop]) := by
  rw [frameOf_eq c hp, Config.fields, c.stuffAll_append, c.stuffAll_singleton, List.append_assoc]

/-- The fields of two payloads never differ in one value alone: a change of the payload changes the checksum. -/
theorem Config.fields_ne_of_one_change {c : Config} (hc : c.wf = true) {p q u₀ u₁ : List Byte} {v v' : Byte}
    (hne : v ≠ v') (hp : c.fields p = u₀ ++ v :: u₁) : c.fields q ≠ u₀ ++ v' :: u₁ := by
  intro hq
  rcases List.eq_nil_or_concat u₁ with rfl | ⟨u₁, k, rfl⟩
  · obtain ⟨rfl, hv⟩ := List.append_inj' hp rfl
    obtain ⟨rfl, hv'⟩ := List.append_inj' hq rfl
    exact hne ((List.cons.inj hv).1.symm.trans (List.cons.inj hv').1)
  · rw [List.concat_eq_append, ← List.cons_append, ← List.append_assoc] at hp hq
    obtain ⟨rfl, hk⟩ := List.append_inj' hp rfl
    obtain ⟨rfl, hk'⟩ := List.append_inj' hq rfl
    have hsum := (List.cons.inj hk).1.trans (List.cons.inj hk').1.symm
    rw [List.append_cons, List.append_cons u₀ v'] at hsum
    obtain ⟨-, -, hsees⟩ := checksumSeesEveryOneByteChange c hc
    exact hsees u₀ u₁ v v' hne hsum

/-! ### One byte of the fields changed (42_decoder.md R117) -/

section Damage

variable {c : Config} {n : Byte} {p q x y : List Byte} {w w' : Byte}

theorem Config.not_mem_of_stuffAll_eq (hc : c.wf = true) {u : List Byte} {b : Byte} (hb : c.isMarker b = true)
    (h : c.stuffAll u = x ++ w :: y) : b ∉ x ∧ b ∉ y := by
  have hnot : b ∉ c.stuffAll u := fun hmem => by
    rw [Config.isMarker_of_mem_stuffAll hc hmem] at hb
    cases hb
  rw [h] at hnot
  exact ⟨fun hx => hnot (List.mem_append_left _ hx),
    fun hy => hnot (List.mem_append_right _ (List.mem_cons_of_mem _ hy))⟩

/-- Before any byte of stuffed bytes there are fewer units than in all. -/
theorem Config.countP_lt_of_append_cons (hc : c.wf = true) {u : List Byte} (h : c.stuffAll u = x ++ w :: y) :
    x.countP (· != c.esc) < u.length := by
  rw [← c.countP_ne_esc_stuffAll hc, h, List.countP_append, List.countP_cons]
  by_cases hw : w = c.esc
  · subst hw
    obtain ⟨b, z, rfl, hb⟩ := Config.after_esc hc h
    simp [hb]
  · simp [hw]

/-- Behind any two bytes of stuffed bytes there are fewer units than in all: the two are not both `ESC`. -/
theorem Config.countP_lt_of_append_cons_cons (hc : c.wf = true) {u : List Byte} {b : Byte}
    (h : c.stuffAll u = x ++ w :: b :: y) : y.countP (· != c.esc) < u.length := by
  rw [← c.countP_ne_esc_stuffAll hc, h, List.countP_append, List.countP_cons, List.countP_cons]
  by_cases hw : w = c.esc
  · subst hw
    obtain ⟨_, _, heq, hb⟩ := Config.after_esc hc h
    obtain ⟨rfl, -⟩ := List.cons.inj heq
    simp only [bne_iff_ne, hb, ne_eq, not_false_eq_true, if_true]
    omega
  · simp only [bne_iff_ne, hw, ne_eq, not_false_eq_true, if_true]
    omega

/-- What the damaged bytes begin with is no frame: its fields would end where the damaged ones do and differ from those
of `p` in one value; or the damage is a `STOP`, and as many units would fit before it. -/
theorem not_frame_at_front_of_damage (hc : c.wf = true) (hp : p.length = n.toNat) (hq : q.length = n.toNat)
    (hne : w ≠ w') (hfields : c.stuffAll (c.fields p) = x ++ w :: y) :
    ¬ frameOf c q <+: c.start :: n :: (x ++ w' :: y ++ [c.stop]) := by
  rintro ⟨g, hg⟩
  have hlen : (c.fields p).length = (c.fields q).length := by simp [Config.fields, hp, hq]
  obtain ⟨hstopx, hstopy⟩ := Config.not_mem_of_stuffAll_eq hc c.isMarker_stop hfields
  rw [frameOf_eq_fields c hq] at hg
  simp only [List.cons_append, List.cons.injEq, true_and] at hg
  rcases List.eq_nil_or_concat g with rfl | ⟨g, z, rfl⟩
  · obtain ⟨heq, -⟩ := List.append_inj' ((List.append_nil _).symm.trans hg) rfl
    obtain ⟨u₀, v, v', u₁, hv, hpu, hqu⟩ := Config.units_of_one_byte_change hc hlen hne hfields heq
    exact Config.fields_ne_of_one_change hc hv hpu hqu
  · rw [List.concat_eq_append, ← List.append_assoc, List.append_assoc (c.stuffAll _)] at hg
    obtain ⟨heq, -⟩ := List.append_inj' hg rfl
    obtain ⟨hx, -, -⟩ := (List.append_cons_inj_of_notMem hstopx hstopy).mp heq.symm
    have hlt := Config.countP_lt_of_append_cons hc hfields
    rw [hx, c.countP_ne_esc_stuffAll hc, hlen] at hlt
    exact Nat.lt_irrefl _ hlt

/-- What stands further on in the damaged bytes is no frame: the damage would be its `START`, and behind it there are
too few units left. -/
theorem not_frame_within_damage (hc : c.wf = true) (hp : p.length = n.toNat) (hq : q.length = n.toNat)
    (hfields : c.stuffAll (c.fields p) = x ++ w :: y) : ¬ frameOf c q <:+: x ++ w' :: y ++ [c.stop] := by
  rintro ⟨g₁, g₂, hg⟩
  obtain ⟨hstartx, hstarty⟩ := Config.not_mem_of_stuffAll_eq hc c.isMarker_start hfields
  obtain ⟨-, hstopy⟩ := Config.not_mem_of_stuffAll_eq hc c.isMarker_stop hfields
  rw [frameOf_eq_fields c hq] at hg
  rcases List.eq_nil_or_concat g₂ with rfl | ⟨g₂, z, rfl⟩
  · rw [List.append_nil, ← List.cons_append, ← List.cons_append, ← List.append_assoc] at hg
    obtain ⟨heq, -⟩ := List.append_inj' hg rfl
    obtain ⟨-, -, rfl⟩ := (List.append_cons_inj_of_notMem hstartx hstarty).mp heq.symm
    have hlt := Config.countP_lt_of_append_cons_cons hc hfields
    rw [c.countP_ne_esc_stuffAll hc] at hlt
    simp [Config.fields, hp, hq] at hlt
  · rw [List.concat_eq_append, ← List.append_assoc, List.append_assoc g₁] at hg
    obtain ⟨heq, -⟩ := List.append_inj' hg rfl
    obtain ⟨-, -, rfl⟩ := (List.append_cons_inj_of_notMem hstartx hstarty).mp heq.symm
    exact hstopy (by simp)

end Damage

end Sys2Proof

namespace Sys2Proof.Machine

/-! ### `Byte(b)`, state by state (42_decoder.md R99 to R106) -/

/-- What `START` in `WaitStart` leaves: cleared, at the length position (42_decoder.md R99). -/
def RxRegs.opened (c : Config) (r : RxRegs) : RxRegs := { r.clear c with state := .readLength }

section ByState

variable {c : Config} {n : Byte} {r : RxRegs} {b : Byte}

theorem rxByte_waitStart_of_start (hs : r.state = .waitStart) :
    rxByte c n r c.start = .ok (r.opened c, .none) := by
  simp only [rxByte, hs, rxWaitStart, if_true, RxRegs.opened]

theorem rxByte_waitStart_of_fill (hs : r.state = .waitStart) (hb : b ≠ c.start) : rxByte c n r b = .ok (r, .none) := by
  simp only [rxByte, hs, rxWaitStart, hb, if_false]

theorem rxByte_readLength_of_gt (hs : r.state = .readLength) (hb : b.toNat > c.maxPayload) :
    rxByte c n r b = .ok (r.resync c b .lengthExceedsMax) := by
  simp only [rxByte, hs, rxReadLength, exceedsMax_eq_true hb, if_true]

theorem rxByte_readLength_of_ne (hs : r.state = .readLength) (hmax : b.toNat ≤ c.maxPayload) (hb : b ≠ n) :
    rxByte c n r b = .ok (r.resync c b .sizeMismatch) := by
  simp only [rxByte, hs, rxReadLength, exceedsMax_eq_false hmax, hb, ne_eq, not_false_eq_true, Bool.false_eq_true,
    if_true, if_false]

theorem rxByte_readLength_of_eq (hs : r.state = .readLength) (hmax : n.toNat ≤ c.maxPayload) :
    rxByte c n r n = .ok (r.acceptLength c n, .none) := by
  simp only [rxByte, hs, rxReadLength, exceedsMax_eq_false hmax, ne_eq, not_true_eq_false, Bool.false_eq_true, if_false]

theorem rxByte_readPayload_of_esc (hs : r.state = .readPayload) :
    rxByte c n r c.esc = .ok ({ r with state := .readEscapedByte }, .none) := by
  simp only [rxByte, hs, rxReadPayload, if_true]

theorem rxByte_readPayload_of_reserved (hs : r.state = .readPayload) (hesc : b ≠ c.esc) (hb : c.isReserved b = true) :
    rxByte c n r b = .ok (r.resync c b .unescapedMarker) := by
  simp only [rxByte, hs, rxReadPayload, hesc, hb, if_true, if_false]

theorem rxByte_readPayload_of_not_reserved (hs : r.state = .readPayload) (hidx : r.idx.toNat < c.maxPayload)
    (hb : c.isReserved b = false) : rxByte c n r b = .ok (r.stored c b, .none) := by
  simp only [rxByte, hs, rxReadPayload, (Config.isReserved_eq_false_iff.mp hb).1, hb, Bool.false_eq_true, if_false]
  exact RxRegs.store_ok.mpr ⟨hidx, rfl, rfl⟩

theorem rxByte_readEscapedByte_of_reserved (hs : r.state = .readEscapedByte) (hidx : r.idx.toNat < c.maxPayload)
    (hb : c.isReserved (c.dec b) = true) : rxByte c n r b = .ok (r.stored c (c.dec b), .none) := by
  simp only [rxByte, hs, rxReadEscapedByte, hb, if_true]
  exact RxRegs.store_ok.mpr ⟨hidx, rfl, rfl⟩

theorem rxByte_readEscapedByte_of_not_reserved (hs : r.state = .readEscapedByte) (hb : c.isReserved (c.dec b) = false) :
    rxByte c n r b = .ok (r.resync c b .badEscape) := by
  simp only [rxByte, hs, rxReadEscapedByte, hb, Bool.false_eq_true, if_false]

theorem rxByte_readChecksum_of_esc (hs : r.state = .readChecksum) :
    rxByte c n r c.esc = .ok ({ r with state := .readEscapedChecksum }, .none) := by
  simp only [rxByte, hs, rxReadChecksum, if_true]

theorem rxByte_readChecksum_of_reserved (hs : r.state = .readChecksum) (hesc : b ≠ c.esc)
    (hb : c.isReserved b = true) : rxByte c n r b = .ok (r.resync c b .unescapedMarker) := by
  simp only [rxByte, hs, rxReadChecksum, hesc, hb, if_true, if_false]

theorem rxByte_readChecksum_of_not_reserved (hs : r.state = .readChecksum) (hb : c.isReserved b = false) :
    rxByte c n r b = .ok (r.holdChecksum b, .none) := by
  simp only [rxByte, hs, rxReadChecksum, (Config.isReserved_eq_false_iff.mp hb).1, hb, Bool.false_eq_true, if_false]

theorem rxByte_readEscapedChecksum_of_reserved (hs : r.state = .readEscapedChecksum)
    (hb : c.isReserved (c.dec b) = true) : rxByte c n r b = .ok (r.holdChecksum (c.dec b), .none) := by
  simp only [rxByte, hs, rxReadEscapedChecksum, hb, if_true]

theorem rxByte_readEscapedChecksum_of_not_reserved (hs : r.state = .readEscapedChecksum)
    (hb : c.isReserved (c.dec b) = false) : rxByte c n r b = .ok (r.resync c b .badEscape) := by
  simp only [rxByte, hs, rxReadEscapedChecksum, hb, Bool.false_eq_true, if_false]

theorem rxByte_expectStop_of_ne (hs : r.state = .expectStop) (hb : b ≠ c.stop) :
    rxByte c n r b = .ok (r.resync c b .missingStop) := by
  simp only [rxByte, hs, rxExpectStop, hb, ne_eq, not_false_eq_true, if_true]

theorem rxByte_expectStop_of_stop (hs : r.state = .expectStop) (hlen : r.len.toNat ≤ c.maxPayload) :
    rxByte c n r c.stop = .ok (r.clear c,
      if r.ck = r.ckrx then .frameOk (r.readUpTo r.len.toNat) else .drop .checksumError) := by
  simp only [rxByte, hs, rxExpectStop, ne_eq, not_true_eq_false, if_false, rxJudge_of_len_le hlen]

end ByState

/-! ### The inputs that are not bytes (42_decoder.md R108, R109) -/

theorem rxOnTimeout_of_waitStart {r : RxRegs} (hs : r.state = .waitStart) (c : Config) :
    rxOnTimeout c r = .ok (r, .none) := if_pos hs

theorem rxOnTimeout_of_not_waitStart {r : RxRegs} (hs : r.state ≠ .waitStart) (c : Config) :
    rxOnTimeout c r = .ok (r.clear c, .drop .timeout) := if_neg hs

/-! ### The rows of RXIN -/

/-- An input of RX is one input, whichever state's row it is given as. -/
theorem exec_rxRow_eq (q : RxState) {u : RxInput} {s : State} {r : RxRegs} {e : RxEvent}
    (h : rxStep s.cfg s.rxN s.rx u = .ok (r, e)) : exec (rxRow q u) s = .next (s.withRx r e) :=
  exec_rxRow_eq_next_iff.mpr ⟨r, e, h, rfl⟩

/-- A byte that drops the frame and is judged again (42_decoder.md R98). -/
theorem exec_rxRow_drops (q : RxState) {s : State} {b : Byte} {cause : Cause}
    (h : rxByte s.cfg s.rxN s.rx b = .ok (s.rx.resync s.cfg b cause)) :
    ∃ t, exec (rxRow q (.byte b)) s = .next t ∧ RxFrame s t ∧ DroppedAt s t b cause :=
  ⟨_, exec_rxRow_eq q (u := .byte b) h, s.withRx_frame _ _, s.rx.restart_eq s.cfg b, rfl⟩

/-- A byte that raises nothing and leaves the registers `r`. -/
theorem exec_rxRow_moves (q : RxState) {s : State} {b : Byte} {r : RxRegs}
    (h : rxByte s.cfg s.rxN s.rx b = .ok (r, .none)) :
    ∃ t, exec (rxRow q (.byte b)) s = .next t ∧ RxFrame s t ∧ t.rxEvent = .none ∧ t.rx = r :=
  ⟨_, exec_rxRow_eq q (u := .byte b) h, s.withRx_frame _ _, rfl, rfl⟩

/-- A byte that stores `v` (42_decoder.md R102). -/
theorem exec_rxRow_stores (q : RxState) {s : State} {b v : Byte}
    (h : rxByte s.cfg s.rxN s.rx b = .ok (s.rx.stored s.cfg v, .none)) :
    ∃ t, exec (rxRow q (.byte b)) s = .next t ∧ RxFrame s t ∧ t.rxEvent = .none ∧ StoredAs s.cfg s.rx t.rx v :=
  ⟨_, exec_rxRow_eq q (u := .byte b) h, s.withRx_frame _ _, rfl, s.rx.storedAs s.cfg v⟩

/-- Settles O19, by whether the byte is `START`. -/
theorem waitStartActsOnStartOnly : Obligations.WaitStartActsOnStartOnly := by
  intro s b _ hs
  by_cases hb : b = s.cfg.start
  · subst hb
    rw [if_pos rfl]
    exact exec_rxRow_moves .waitStart (rxByte_waitStart_of_start hs)
  · rw [if_neg hb]
    exact exec_rxRow_moves .waitStart (rxByte_waitStart_of_fill hs hb)

/-- Settles O20, by the three arms in the order of their tests. -/
theorem readLengthJudgesTheSize : Obligations.ReadLengthJudgesTheSize := by
  intro s b _ hs
  by_cases hmax : b.toNat > s.cfg.maxPayload
  · simp only [if_pos hmax]
    exact exec_rxRow_drops .readLength (rxByte_readLength_of_gt hs hmax)
  · have hle : b.toNat ≤ s.cfg.maxPayload := Nat.le_of_not_lt hmax
    by_cases hn : b = s.rxN
    · simp only [if_neg hmax, if_neg (not_not.mpr hn)]
      subst hn
      exact exec_rxRow_moves .readLength (rxByte_readLength_of_eq hs hle)
    · simp only [if_neg hmax, if_pos hn]
      exact exec_rxRow_drops .readLength (rxByte_readLength_of_ne hs hle hn)

/-- Settles O21, by the three arms in the order of their tests. -/
theorem readPayloadStoresOrEscapes : Obligations.ReadPayloadStoresOrEscapes := by
  intro s b _ hs hidx
  by_cases hesc : b = s.cfg.esc
  · simp only [if_pos hesc]
    exact exec_rxRow_moves .readPayload (hesc ▸ rxByte_readPayload_of_esc hs)
  · by_cases hmark : b = s.cfg.start ∨ b = s.cfg.stop
    · simp only [if_neg hesc, if_pos hmark]
      exact exec_rxRow_drops .readPayload (rxByte_readPayload_of_reserved hs hesc (Config.isReserved_of_marker hmark))
    · simp only [if_neg hesc, if_neg hmark]
      exact exec_rxRow_stores .readPayload
        (rxByte_readPayload_of_not_reserved hs hidx (Config.isReserved_eq_false_of_ne hesc hmark))

/-- Settles O22, by whether the byte unescapes to a reserved value. -/
theorem readEscapedByteUnescapes : Obligations.ReadEscapedByteUnescapes := by
  intro s b _ hs hidx
  by_cases hres : Reserved s.cfg (b ^^^ s.cfg.escXor)
  · obtain ⟨t, ht, hframe, hstored⟩ := exec_rxRow_stores .readEscapedByte
      (rxByte_readEscapedByte_of_reserved hs hidx ((isReserved_iff_reserved s.cfg _).mpr hres))
    exact ⟨t, ht, hframe, fun _ => hstored, absurd hres⟩
  · obtain ⟨t, ht, hframe, hdrop⟩ := exec_rxRow_drops .readEscapedByte
      (rxByte_readEscapedByte_of_not_reserved hs (isReserved_eq_false hres))
    exact ⟨t, ht, hframe, fun h => absurd h hres, fun _ => hdrop⟩

/-- Settles O23, by the three arms in the order of their tests. -/
theorem readChecksumHoldsTheByte : Obligations.ReadChecksumHoldsTheByte := by
  intro s b _ hs
  by_cases hesc : b = s.cfg.esc
  · simp only [if_pos hesc]
    exact exec_rxRow_moves .readChecksum (hesc ▸ rxByte_readChecksum_of_esc hs)
  · by_cases hmark : b = s.cfg.start ∨ b = s.cfg.stop
    · simp only [if_neg hesc, if_pos hmark]
      exact exec_rxRow_drops .readChecksum (rxByte_readChecksum_of_reserved hs hesc (Config.isReserved_of_marker hmark))
    · simp only [if_neg hesc, if_neg hmark]
      exact exec_rxRow_moves .readChecksum
        (rxByte_readChecksum_of_not_reserved hs (Config.isReserved_eq_false_of_ne hesc hmark))

/-- Settles O24, by whether the byte unescapes to a reserved value. -/
theorem readEscapedChecksumUnescapes : Obligations.ReadEscapedChecksumUnescapes := by
  intro s b _ hs
  by_cases hres : Reserved s.cfg (b ^^^ s.cfg.escXor)
  · obtain ⟨t, ht, hframe, hheld⟩ := exec_rxRow_moves .readEscapedChecksum
      (rxByte_readEscapedChecksum_of_reserved hs ((isReserved_iff_reserved s.cfg _).mpr hres))
    exact ⟨t, ht, hframe, fun _ => hheld, absurd hres⟩
  · obtain ⟨t, ht, hframe, hdrop⟩ := exec_rxRow_drops .readEscapedChecksum
      (rxByte_readEscapedChecksum_of_not_reserved hs (isReserved_eq_false hres))
    exact ⟨t, ht, hframe, fun h => absurd h hres, fun _ => hdrop⟩

/-- Settles O25: a byte that is not `STOP` drops the frame, and at `STOP` the checksums are compared. -/
theorem expectStopJudgesTheFrame : Obligations.ExpectStopJudgesTheFrame := by
  intro s b _ hs hlen
  by_cases hb : b = s.cfg.stop
  · subst hb
    refine ⟨_, exec_rxRow_eq .expectStop (u := .byte s.cfg.stop) (rxByte_expectStop_of_stop hs hlen),
      s.withRx_frame _ _, ?_⟩
    rw [if_neg (not_not.mpr rfl)]
    exact ⟨rfl, (if_congr eq_comm rfl rfl).trans (ite_not ..).symm⟩
  · simp only [if_pos hb]
    exact exec_rxRow_drops .expectStop (rxByte_expectStop_of_ne hs hb)

/-- Settles O26: `Timeout` by whether a frame is in flight; `IoError` in every state alike. -/
theorem timeoutAndIoErrorClear : Obligations.TimeoutAndIoErrorClear := by
  intro s _
  refine ⟨?_, _, rfl, s.withRx_frame _ _, rfl, rfl⟩
  by_cases hs : s.rx.state = .waitStart
  · simp only [if_pos hs]
    exact ⟨_, exec_rxRow_eq .waitStart (u := .timeout) (rxOnTimeout_of_waitStart hs s.cfg), s.withRx_frame _ _,
      rfl, rfl⟩
  · simp only [if_neg hs]
    exact ⟨_, exec_rxRow_eq .waitStart (u := .timeout) (rxOnTimeout_of_not_waitStart hs s.cfg), s.withRx_frame _ _,
      rfl, rfl⟩

/-! ### The procedures of RX and `CFG.SETN` (42_decoder.md R98, R102, R107, R110) -/

/-- Settles O16: `clear` writes the cleared values, and `resync` leaves what `WaitStart` then makes of the byte. -/
theorem clearAndResyncEmptyTheParser : Obligations.ClearAndResyncEmptyTheParser := fun s _ =>
  ⟨⟨_, rfl, s.withRx_frame _ _, rfl, rfl⟩,
    fun b _ => ⟨_, rfl, s.withRx_frame _ _, s.rx.restart_eq s.cfg b, rfl⟩⟩

/-- Settles O17: the element exists, so `store` answers. -/
theorem storeAppendsOneByte : Obligations.StoreAppendsOneByte := fun s v _ hidx =>
  ⟨_, State.stepRx_next.mpr ⟨_, _, RxRegs.store_ok.mpr ⟨hidx, rfl, rfl⟩, rfl⟩, s.withRx_frame _ _, rfl,
    s.rx.storedAs s.cfg v⟩

/-- Settles O18: the elements of the payload exist, so `Done` answers; no state of RX has code 7. -/
theorem doneYieldsAndResets : Obligations.DoneYieldsAndResets := fun s =>
  ⟨RxState.code_ne_seven _, fun _ hlen =>
    ⟨_, State.stepRx_next.mpr ⟨_, _, RxRegs.done_ok.mpr ⟨hlen, rfl, rfl⟩, rfl⟩, s.withRx_frame _ _, rfl, rfl⟩⟩

/-- Settles O27: the row is that one update. -/
theorem setnWritesRxNOnly : Obligations.SetnWritesRxNOnly := fun _ _ =>
  ⟨_, rfl, rfl, rfl, rfl, rfl, rfl, rfl, rfl, rfl, rfl, rfl⟩

/-! ### Runs (42_decoder.md R122) -/

section Run

variable {c : Config} {n : Byte} {r r' r'' : RxRegs} {u : RxInput} {us vs : List RxInput} {e : RxEvent}
  {es fs : List RxEvent}

theorem rxRun_cons (hstep : rxStep c n r u = .ok (r', e)) (hrest : rxRun c n r' us = .ok (r'', es)) :
    rxRun c n r (u :: us) = .ok (r'', e :: es) := by
  simp only [rxRun, hstep, hrest]

theorem rxRun_nil_eq (h : rxRun c n r [] = .ok (r', es)) : r' = r ∧ es = [] := by
  cases h
  exact ⟨rfl, rfl⟩

theorem rxRun_cons_eq (h : rxRun c n r (u :: us) = .ok (r'', es)) :
    ∃ r' e fs, rxStep c n r u = .ok (r', e) ∧ rxRun c n r' us = .ok (r'', fs) ∧ es = e :: fs := by
  cases hstep : rxStep c n r u with
  | error f => simp only [rxRun, hstep, reduceCtorEq] at h
  | ok o =>
    cases hrest : rxRun c n o.1 us with
    | error f => simp only [rxRun, hstep, hrest, reduceCtorEq] at h
    | ok o' =>
      rw [rxRun_cons hstep hrest] at h
      cases h
      exact ⟨_, _, _, rfl, hrest, rfl⟩

theorem rxRun_append (h : rxRun c n r us = .ok (r', es)) (h' : rxRun c n r' vs = .ok (r'', fs)) :
    rxRun c n r (us ++ vs) = .ok (r'', es ++ fs) := by
  induction us generalizing r es with
  | nil =>
    obtain ⟨rfl, rfl⟩ := rxRun_nil_eq h
    exact h'
  | cons u us ih =>
    obtain ⟨r₁, e, es, hstep, hrest, rfl⟩ := rxRun_cons_eq h
    exact rxRun_cons hstep (ih hrest)

theorem rxRun_length (h : rxRun c n r us = .ok (r', es)) : es.length = us.length := by
  induction us generalizing r es with
  | nil =>
    obtain ⟨-, rfl⟩ := rxRun_nil_eq h
    rfl
  | cons u us ih =>
    obtain ⟨r₁, e, es, -, hrest, rfl⟩ := rxRun_cons_eq h
    exact congrArg Nat.succ (ih hrest)

end Run

@[simp] theorem byteInputs_cons (b : Byte) (bs : List Byte) : byteInputs (b :: bs) = .byte b :: byteInputs bs := rfl

@[simp] theorem byteInputs_append (as bs : List Byte) : byteInputs (as ++ bs) = byteInputs as ++ byteInputs bs :=
  List.map_append

@[simp] theorem byteInputs_length (bs : List Byte) : (byteInputs bs).length = bs.length := List.length_map _

/-! ### The cleared values -/

theorem RxRegs.isCleared_clear (r : RxRegs) (c : Config) : (r.clear c).isCleared c := ⟨rfl, rfl, rfl, rfl⟩

theorem RxRegs.isCleared_restart (r : RxRegs) (c : Config) (b : Byte) : (r.restart c b).isCleared c :=
  ⟨r.restart_len c b, r.restart_idx c b, r.restart_ck c b, r.restart_ckrx c b⟩

/-! ### Where RX events arise (42_decoder.md R123) -/

/-- An event that is not `None` ends a frame: it leaves the cleared values. -/
theorem rxByte_event {c : Config} {n : Byte} {r r' : RxRegs} {b : Byte} {e : RxEvent}
    (h : rxByte c n r b = .ok (r', e)) (he : e ≠ .none) :
    r'.isCleared c ∧ r.state ≠ .waitStart
    ∧ ((∃ p, e = .frameOk p) ∨ e = .drop .checksumError → b = c.stop ∧ r.state = .expectStop) := by
  rcases rxByte_cases h with ⟨-, -, -, rfl⟩ | ⟨-, -, -, rfl⟩ | ⟨-, -, -, -, rfl⟩ | ⟨-, -, -, rfl⟩ | ⟨-, -, -, -, rfl⟩
    | ⟨-, -, -, -, rfl⟩ | ⟨-, -, -, rfl⟩ | ⟨-, -, -, rfl⟩ | ⟨-, -, -, rfl⟩ | ⟨hs, hb, -, rfl, -⟩
    | ⟨hs, hb, -, -, rfl, -⟩ | ⟨hs, rfl, cause, hcause, rfl⟩
  iterate 9 exact absurd rfl he
  · exact ⟨r.isCleared_clear c, by simp [hs], fun _ => ⟨hb, hs⟩⟩
  · exact ⟨r.isCleared_clear c, by simp [hs], fun _ => ⟨hb, hs⟩⟩
  · refine ⟨r.isCleared_restart c b, hs, ?_⟩
    rintro (⟨p, hp⟩ | hp) <;> cases hp
    cases hcause

theorem rxOnTimeout_event {c : Config} {r r' : RxRegs} {e : RxEvent} (h : rxOnTimeout c r = .ok (r', e)) :
    (r.state = .waitStart ∧ r' = r ∧ e = .none) ∨ (r' = r.clear c ∧ e = .drop .timeout) := by
  by_cases hs : r.state = .waitStart
  · cases (rxOnTimeout_of_waitStart hs c).symm.trans h
    exact .inl ⟨hs, rfl, rfl⟩
  · cases (rxOnTimeout_of_not_waitStart hs c).symm.trans h
    exact .inr ⟨rfl, rfl⟩

/-- Whatever raises an event that is not `None` leaves the cleared values. -/
theorem rxStep_isCleared_of_event {c : Config} {n : Byte} {r r' : RxRegs} {u : RxInput} {e : RxEvent}
    (h : rxStep c n r u = .ok (r', e)) (he : e ≠ .none) : r'.isCleared c := by
  cases u with
  | byte b => exact (rxByte_event h he).1
  | timeout =>
    rcases rxOnTimeout_event h with ⟨-, -, rfl⟩ | ⟨rfl, -⟩
    · exact absurd rfl he
    · exact r.isCleared_clear c
  | ioError =>
    cases h
    exact r.isCleared_clear c

theorem rxStep_stop_of_frameOk_or_checksumError {c : Config} {n : Byte} {r r' : RxRegs} {u : RxInput} {e : RxEvent}
    (h : rxStep c n r u = .ok (r', e)) (he : (∃ p, e = .frameOk p) ∨ e = .drop .checksumError) :
    u = .byte c.stop ∧ r.state = .expectStop := by
  cases u with
  | byte b =>
    have hne : e ≠ .none := by rintro rfl; simp at he
    obtain ⟨-, -, hstop⟩ := rxByte_event h hne
    obtain ⟨rfl, hs⟩ := hstop he
    exact ⟨rfl, hs⟩
  | timeout => rcases rxOnTimeout_event h with ⟨-, -, rfl⟩ | ⟨-, rfl⟩ <;> simp at he
  | ioError =>
    cases h
    simp at he

theorem rxRun_countP_frameOk_le {c : Config} {n : Byte} {r r' : RxRegs} {us : List RxInput} {es : List RxEvent}
    (h : rxRun c n r us = .ok (r', es)) : es.countP isFrameOk ≤ us.count (.byte c.stop) := by
  induction us generalizing r es with
  | nil =>
    obtain ⟨-, rfl⟩ := rxRun_nil_eq h
    exact Nat.le_refl 0
  | cons u us ih =>
    obtain ⟨r₁, e, es, hstep, hrest, rfl⟩ := rxRun_cons_eq h
    have hle := ih hrest
    cases e with
    | frameOk p =>
      obtain ⟨rfl, -⟩ := rxStep_stop_of_frameOk_or_checksumError hstep (.inl ⟨p, rfl⟩)
      simpa [List.countP_cons, isFrameOk] using hle
    | none => exact hle.trans List.count_le_count_cons
    | drop cause => exact hle.trans List.count_le_count_cons

/-- Settles O46: of the arms of the step, those that raise the two events are the two of `STOP` in `ExpectStop`; the
counts of a run add up its steps. -/
theorem whereEventsArise : Obligations.WhereEventsArise := by
  refine ⟨fun c n r r' u e _ h => ⟨rxStep_stop_of_frameOk_or_checksumError h, ?_⟩,
    fun c n r r' us es _ h => ⟨rxRun_length h, rxRun_countP_frameOk_le h⟩⟩
  rintro hs ⟨b, rfl⟩
  by_contra he
  obtain ⟨-, hbusy, -⟩ := rxByte_event h he
  exact hbusy hs

/-! ### Fill (42_decoder.md R124) -/

theorem rxRun_fill {c : Config} {n : Byte} {r : RxRegs} {us : List RxInput} (hs : r.state = .waitStart)
    (hus : ∀ u ∈ us, u = .timeout ∨ ∃ b, u = .byte b ∧ b ≠ c.start) :
    rxRun c n r us = .ok (r, List.replicate us.length .none) := by
  induction us with
  | nil => rfl
  | cons u us ih =>
    obtain ⟨hu, hus⟩ := List.forall_mem_cons.mp hus
    refine rxRun_cons ?_ (ih hus)
    rcases hu with rfl | ⟨b, rfl, hb⟩
    · exact rxOnTimeout_of_waitStart hs c
    · exact rxByte_waitStart_of_fill hs hb

theorem rxRun_byteInputs_of_isFill {c : Config} {r : RxRegs} {bs : List Byte} (n : Byte) (hs : r.state = .waitStart)
    (hbs : c.isFill bs) : rxRun c n r (byteInputs bs) = .ok (r, List.replicate bs.length .none) := by
  rw [← byteInputs_length bs]
  refine rxRun_fill hs fun u hu => .inr ?_
  obtain ⟨b, hb, rfl⟩ := List.mem_map.mp hu
  exact ⟨b, rfl, hbs b hb⟩

/-- Settles O49: each such input leaves `WaitStart` as it is. -/
theorem fillIsInvisible : Obligations.FillIsInvisible := fun _ _ _ _ _ hs hus => rxRun_fill hs hus

/-! ### A size that is not expected (42_decoder.md R116) -/

theorem rxByte_readLength_drops {c : Config} {n l : Byte} {r : RxRegs} (hs : r.state = .readLength) (hl : l ≠ n) :
    rxByte c n r l
      = .ok (r.restart c l, .drop (if l.toNat > c.maxPayload then .lengthExceedsMax else .sizeMismatch)) := by
  split_ifs with hmax
  · exact rxByte_readLength_of_gt hs hmax
  · exact rxByte_readLength_of_ne hs (Nat.le_of_not_lt hmax) hl

/-- Settles O56: the length byte is refused, `resync` clears and stores nothing, and what follows is fill. -/
theorem wrongSizeStoresNothing : Obligations.WrongSizeStoresNothing := by
  intro c n l r bs _ hs hl
  have hlen := rxByte_readLength_drops (c := c) (r := r.opened c) rfl hl
  have hrun : rxRun c n r (byteInputs [c.start, l]) = .ok ((r.opened c).restart c l, _) :=
    rxRun_cons (rxByte_waitStart_of_start hs) (rxRun_cons (u := .byte l) hlen rfl)
  refine ⟨_, _, hrun, rfl, RxRegs.restart_buf .., RxRegs.isCleared_restart .., RxRegs.restart_state ..,
    fun hne hfill => ?_⟩
  rw [byteInputs_append]
  exact rxRun_append hrun (rxRun_byteInputs_of_isFill n ((RxRegs.restart_state ..).trans (if_neg hne)) hfill)

/-! ### Progress (42_decoder.md R118) -/

/-- The most bytes that can come until RX has raised an event or stands in `WaitStart`: two for each byte of the payload
still to come, two for the checksum and one for `STOP`. -/
def RxRegs.budget (n : Byte) (r : RxRegs) : Nat :=
  match r.state with
  | .waitStart => 2 * n.toNat + 5
  | .readLength => 2 * n.toNat + 4
  | .readPayload => 2 * (r.len.toNat - r.idx.toNat) + 3
  | .readEscapedByte => 2 * (r.len.toNat - r.idx.toNat) + 2
  | .readChecksum => 3
  | .readEscapedChecksum => 2
  | .expectStop => 1

theorem RxRegs.budget_pos (n : Byte) (r : RxRegs) : 0 < r.budget n := by
  unfold RxRegs.budget
  split <;> omega

theorem RxRegs.budget_le {n : Byte} {r : RxRegs}
    (hlen : r.state ≠ .waitStart → r.state ≠ .readLength → r.len.toNat ≤ n.toNat) :
    r.budget n ≤ 2 * n.toNat + 5 := by
  unfold RxRegs.budget
  cases hs : r.state <;> simp only [hs, ne_eq, reduceCtorEq, not_true_eq_false, not_false_eq_true, false_implies,
    forall_const] at hlen ⊢ <;> omega

theorem RxRegs.budget_acceptLength_lt (c : Config) (n : Byte) (r : RxRegs) :
    (r.acceptLength c n).budget n < 2 * n.toNat + 4 := by
  by_cases hzero : n = 0
  · simp only [RxRegs.budget, RxRegs.acceptLength_state, if_pos hzero]
    omega
  · simp only [RxRegs.budget, RxRegs.acceptLength_state, if_neg hzero, RxRegs.acceptLength_len]
    omega

theorem RxRegs.budget_stored_lt {r : RxRegs} (c : Config) (n v : Byte) (hlt : r.idx.toNat < r.len.toNat) :
    (r.stored c v).budget n < 2 * (r.len.toNat - r.idx.toNat) + 2 := by
  have hidx : (r.idx + 1).toNat = r.idx.toNat + 1 := by bv_omega
  by_cases hlast : r.idx + 1 = r.len
  · simp only [RxRegs.budget, RxRegs.stored_state, if_pos hlast]
    omega
  · simp only [RxRegs.budget, RxRegs.stored_state, if_neg hlast, RxRegs.stored_len, RxRegs.stored_idx, hidx]
    omega

/-- A byte that raises nothing and does not leave RX in `WaitStart` uses the budget up. -/
theorem rxByte_budget_lt {c : Config} {n : Byte} {r r' : RxRegs} {b : Byte} (h : RxInv c r)
    (hx : rxByte c n r b = .ok (r', .none)) (hs' : r'.state ≠ .waitStart) : r'.budget n < r.budget n := by
  rcases rxByte_cases hx with ⟨hs, -, rfl, -⟩ | ⟨hs, -, rfl, -⟩ | ⟨hs, -, rfl, rfl, -⟩ | ⟨hs, -, rfl, -⟩
    | ⟨hs, -, -, rfl, -⟩ | ⟨hs, -, -, rfl, -⟩ | ⟨hs, -, rfl, -⟩ | ⟨hs, -, rfl, -⟩ | ⟨hs, -, rfl, -⟩
    | ⟨-, -, -, -, he⟩ | ⟨-, -, -, -, -, he⟩ | ⟨-, -, cause, -, he⟩
  · simp only [RxRegs.budget, hs]
    omega
  · exact absurd hs hs'
  · have hr : r.budget b = 2 * b.toNat + 4 := by simp only [RxRegs.budget, hs]
    exact hr ▸ r.budget_acceptLength_lt c b
  · simp only [RxRegs.budget, hs]
    omega
  · obtain ⟨-, -, hlt, -⟩ := h.isFilling (.inl hs)
    have hr : r.budget n = 2 * (r.len.toNat - r.idx.toNat) + 3 := by simp only [RxRegs.budget, hs]
    exact hr ▸ Nat.lt_succ_of_lt (RxRegs.budget_stored_lt c n b hlt)
  · obtain ⟨-, -, hlt, -⟩ := h.isFilling (.inr hs)
    have hr : r.budget n = 2 * (r.len.toNat - r.idx.toNat) + 2 := by simp only [RxRegs.budget, hs]
    exact hr ▸ RxRegs.budget_stored_lt c n (c.dec b) hlt
  · simp only [RxRegs.budget, hs]
    omega
  · simp only [RxRegs.budget, hs, RxRegs.holdChecksum_state]
    omega
  · simp only [RxRegs.budget, hs, RxRegs.holdChecksum_state]
    omega
  · cases he
  · cases he
  · cases he

/-- As many bytes as the budget of RX bring it to an event or to `WaitStart`. -/
theorem rxRun_ends_of_budget_le {c : Config} {n : Byte} {r : RxRegs} {bs : List Byte} (h : RxInv c r)
    (hbs : r.budget n ≤ bs.length) :
    ∃ k r' es, k < bs.length ∧ rxRun c n r (byteInputs (bs.take (k + 1))) = .ok (r', es)
      ∧ (r'.state = .waitStart ∨ es.getLast? ≠ some .none) := by
  induction bs generalizing r with
  | nil => exact absurd (r.budget_pos n) (Nat.not_lt.mpr hbs)
  | cons b bs ih =>
    obtain ⟨r', e, hstep⟩ := h.rxStep_ok n (.byte b)
    by_cases hend : r'.state = .waitStart ∨ e ≠ .none
    · exact ⟨0, r', [e], Nat.succ_pos _, rxRun_cons hstep rfl, hend.imp_right (by simp)⟩
    · obtain ⟨hs', he⟩ := not_or.mp hend
      obtain rfl := not_not.mp he
      have hlt : r'.budget n < r.budget n := rxByte_budget_lt h hstep hs'
      obtain ⟨k, r'', es, hk, hrun, hes⟩ :=
        ih (rxStep_keeps_inv h hstep).1 (Nat.le_of_lt_succ (hlt.trans_le hbs))
      have hlen : es.length = (bs.take (k + 1)).length := (rxRun_length hrun).trans (byteInputs_length _)
      refine ⟨k + 1, r'', .none :: es, Nat.succ_lt_succ hk, rxRun_cons hstep hrun, hes.imp_right fun hlast => ?_⟩
      cases es with
      | nil =>
        rw [List.length_nil, List.length_take] at hlen
        omega
      | cons e es => exact hlast

/-- Settles O58: the budget of any state is at most `2 * RX_N + 5`, and a byte that ends nothing uses it up. -/
theorem parserNeverHangs : Obligations.ParserNeverHangs := fun _ _ _ _ _ h hlen hbs =>
  rxRun_ends_of_budget_le h ((RxRegs.budget_le hlen).trans_eq hbs.symm)

/-! ### Where RX stands in a frame for `RX_N` (10_state.md R23) -/

/-- A frame of size `n` in flight: the size is latched, and the bytes counted so far are summed. -/
def RxRegs.isInFlight (c : Config) (n : Byte) (r : RxRegs) : Prop :=
  r.len = n ∧ n.toNat ≤ c.maxPayload ∧ r.ck = c.ckFold (r.readUpTo r.idx.toNat)

/-- What holds of RX at any point of a run under `RX_N = n` from `WaitStart`, whatever its buffer held before. -/
def RxRegs.Tracks (c : Config) (n : Byte) (r : RxRegs) : Prop :=
  match r.state with
  | .waitStart => True
  | .readLength => True
  | .readPayload => r.isInFlight c n ∧ r.idx.toNat < n.toNat
  | .readEscapedByte => r.isInFlight c n ∧ r.idx.toNat < n.toNat
  | .readChecksum => r.isInFlight c n ∧ r.idx = n
  | .readEscapedChecksum => r.isInFlight c n ∧ r.idx = n
  | .expectStop => r.isInFlight c n ∧ r.idx = n

section Tracks

variable {c : Config} {n : Byte} {r r' : RxRegs}

theorem RxRegs.Tracks.of_between (c : Config) (n : Byte) (hs : r.state = .waitStart ∨ r.state = .readLength) :
    r.Tracks c n := by
  unfold RxRegs.Tracks
  rcases hs with hs | hs <;> simp only [hs]

theorem RxRegs.Tracks.filling (h : r.Tracks c n) (hs : r.state = .readPayload ∨ r.state = .readEscapedByte) :
    r.isInFlight c n ∧ r.idx.toNat < n.toNat := by
  unfold RxRegs.Tracks at h
  rcases hs with hs | hs <;> simpa only [hs] using h

theorem RxRegs.Tracks.full (h : r.Tracks c n)
    (hs : r.state = .readChecksum ∨ r.state = .readEscapedChecksum ∨ r.state = .expectStop) :
    r.isInFlight c n ∧ r.idx = n := by
  unfold RxRegs.Tracks at h
  rcases hs with hs | hs | hs <;> simpa only [hs] using h

theorem RxRegs.Tracks.clear (c : Config) (n : Byte) (r : RxRegs) : (r.clear c).Tracks c n := .of_between c n (.inl rfl)

theorem RxRegs.Tracks.restart (c : Config) (n : Byte) (r : RxRegs) (b : Byte) : (r.restart c b).Tracks c n := by
  refine .of_between c n ?_
  rw [r.restart_state]
  split
  · exact .inr rfl
  · exact .inl rfl

theorem RxRegs.Tracks.acceptLength (r : RxRegs) (hmax : n.toNat ≤ c.maxPayload) : (r.acceptLength c n).Tracks c n := by
  have hflight : (r.acceptLength c n).isInFlight c n := ⟨rfl, hmax, rfl⟩
  unfold RxRegs.Tracks
  by_cases hzero : n = 0
  · subst hzero
    exact ⟨hflight, rfl⟩
  · simp only [RxRegs.acceptLength_state, if_neg hzero]
    exact ⟨hflight, show 0 < n.toNat by bv_omega⟩

/-- The bytes counted after `store(v)`. -/
theorem RxRegs.readUpTo_idx_stored (hlt : r.idx.toNat < r.len.toNat) (c : Config) (v : Byte) :
    (r.stored c v).readUpTo (r.stored c v).idx.toNat = r.readUpTo r.idx.toNat ++ [v] := by
  have hidx : (r.idx + 1).toNat = r.idx.toNat + 1 := by bv_omega
  rw [RxRegs.stored_idx, hidx, r.readUpTo_stored]

theorem RxRegs.Tracks.stored (h : r.isInFlight c n) (hlt : r.idx.toNat < n.toNat) (v : Byte) :
    (r.stored c v).Tracks c n := by
  obtain ⟨rfl, hmax, hck⟩ := h
  have hflight : (r.stored c v).isInFlight c r.len :=
    ⟨rfl, hmax, by rw [RxRegs.readUpTo_idx_stored hlt, c.ckFold_append_singleton, ← hck, RxRegs.stored_ck]⟩
  unfold RxRegs.Tracks
  by_cases hlast : r.idx + 1 = r.len
  · simp only [RxRegs.stored_state, if_pos hlast]
    exact ⟨hflight, hlast⟩
  · simp only [RxRegs.stored_state, if_neg hlast]
    exact ⟨hflight, show (r.idx + 1).toNat < r.len.toNat by bv_omega⟩

theorem rxByte_keeps_tracks {b : Byte} {e : RxEvent} (h : r.Tracks c n) (hx : rxByte c n r b = .ok (r', e)) :
    r'.Tracks c n := by
  rcases rxByte_cases hx with ⟨-, -, rfl, -⟩ | ⟨-, -, rfl, -⟩ | ⟨-, hmax, rfl, rfl, -⟩ | ⟨hs, -, rfl, -⟩
    | ⟨hs, -, -, rfl, -⟩ | ⟨hs, -, -, rfl, -⟩ | ⟨hs, -, rfl, -⟩ | ⟨hs, -, rfl, -⟩ | ⟨hs, -, rfl, -⟩
    | ⟨-, -, -, rfl, -⟩ | ⟨-, -, -, -, rfl, -⟩ | ⟨-, rfl, -⟩
  · exact .of_between c n (.inr rfl)
  · exact h
  · exact .acceptLength r (Config.toNat_le_of_exceedsMax_false hmax)
  · exact h.filling (.inl hs)
  · obtain ⟨hflight, hlt⟩ := h.filling (.inl hs)
    exact .stored hflight hlt b
  · obtain ⟨hflight, hlt⟩ := h.filling (.inr hs)
    exact .stored hflight hlt (c.dec b)
  · exact h.full (.inl hs)
  · exact h.full (.inl hs)
  · exact h.full (.inr (.inl hs))
  · exact .clear c n r
  · exact .clear c n r
  · exact .restart c n r b

theorem rxStep_keeps_tracks {u : RxInput} {e : RxEvent} (h : r.Tracks c n) (hx : rxStep c n r u = .ok (r', e)) :
    r'.Tracks c n := by
  cases u with
  | byte b => exact rxByte_keeps_tracks h hx
  | timeout =>
    rcases rxOnTimeout_event hx with ⟨-, rfl, -⟩ | ⟨rfl, -⟩
    · exact h
    · exact .clear c n r
  | ioError =>
    cases hx
    exact .clear c n r

/-- No step of such a run faults (20_memory.md R36). -/
theorem RxRegs.Tracks.rxStep_ok (h : r.Tracks c n) (u : RxInput) : ∃ r' e, rxStep c n r u = .ok (r', e) := by
  cases hx : rxStep c n r u with
  | ok o => exact ⟨o.1, o.2, rfl⟩
  | error f =>
    rcases rxStep_error hx with ⟨hs, hidx⟩ | ⟨hs, hlen⟩
    · obtain ⟨⟨-, hmax, -⟩, hlt⟩ := h.filling hs
      omega
    · obtain ⟨⟨rfl, hmax, -⟩, -⟩ := h.full (.inr (.inr hs))
      omega

theorem RxRegs.Tracks.rxRun_ok (h : r.Tracks c n) (us : List RxInput) :
    ∃ r' es, rxRun c n r us = .ok (r', es) ∧ r'.Tracks c n := by
  induction us generalizing r with
  | nil => exact ⟨r, [], rfl, h⟩
  | cons u us ih =>
    obtain ⟨r₁, e, hstep⟩ := h.rxStep_ok u
    obtain ⟨r', es, hrun, h'⟩ := ih (rxStep_keeps_tracks h hstep)
    exact ⟨r', e :: es, rxRun_cons hstep hrun, h'⟩

end Tracks

/-! ### No leak between frames (42_decoder.md R121) -/

/-- Two receivers that differ at most in the elements of their buffers that they have not counted. -/
structure RxRegs.Twin (q r : RxRegs) : Prop where
  state : q.state = r.state
  len : q.len = r.len
  idx : q.idx = r.idx
  ck : q.ck = r.ck
  ckrx : q.ckrx = r.ckrx
  reads : ∀ i, i < r.idx.toNat → q.read i = r.read i

/-- Two steps raise the same event and leave twins. -/
def RxTwinResults (x y : RxResult) : Prop := ∃ q r e, x = .ok (q, e) ∧ y = .ok (r, e) ∧ q.Twin r

section Twin

variable {q r : RxRegs}

/-- What is left by an operation that clears the registers does not show which receiver it was. -/
theorem RxRegs.Twin.of_isCleared {c : Config} (hs : q.state = r.state) (hq : q.isCleared c) (hr : r.isCleared c) :
    q.Twin r := by
  obtain ⟨qlen, qidx, qck, qckrx⟩ := hq
  obtain ⟨rlen, ridx, rck, rckrx⟩ := hr
  exact ⟨hs, qlen.trans rlen.symm, qidx.trans ridx.symm, qck.trans rck.symm, qckrx.trans rckrx.symm,
    fun i hi => absurd hi (by simp [ridx])⟩

theorem RxTwinResults.restart (c : Config) (q r : RxRegs) (b : Byte) (e : RxEvent) :
    RxTwinResults (.ok (q.restart c b, e)) (.ok (r.restart c b, e)) :=
  ⟨_, _, _, rfl, rfl, .of_isCleared ((q.restart_state c b).trans (r.restart_state c b).symm)
    (q.isCleared_restart c b) (r.isCleared_restart c b)⟩

theorem RxTwinResults.clear (c : Config) (q r : RxRegs) (e : RxEvent) :
    RxTwinResults (.ok (q.clear c, e)) (.ok (r.clear c, e)) :=
  ⟨_, _, _, rfl, rfl, .of_isCleared rfl (q.isCleared_clear c) (r.isCleared_clear c)⟩

theorem RxRegs.Twin.withState (h : q.Twin r) (s : RxState) :
    RxTwinResults (.ok ({ q with state := s }, .none)) (.ok ({ r with state := s }, .none)) :=
  ⟨_, _, _, rfl, rfl, rfl, h.len, h.idx, h.ck, h.ckrx, h.reads⟩

theorem RxRegs.Twin.acceptLength (h : q.Twin r) (c : Config) (b : Byte) :
    RxTwinResults (.ok (q.acceptLength c b, .none)) (.ok (r.acceptLength c b, .none)) :=
  ⟨_, _, _, rfl, rfl, rfl, rfl, rfl, rfl, h.ckrx, nofun⟩

theorem RxRegs.Twin.holdChecksum (h : q.Twin r) (v : Byte) :
    RxTwinResults (.ok (q.holdChecksum v, .none)) (.ok (r.holdChecksum v, .none)) :=
  ⟨_, _, _, rfl, rfl, rfl, h.len, h.idx, h.ck, rfl, h.reads⟩

theorem RxRegs.Twin.store (h : q.Twin r) {c : Config} (hidx : r.idx.toNat < c.maxPayload) (v : Byte) :
    RxTwinResults (q.store c v) (r.store c v) := by
  have hidx' : q.idx.toNat < c.maxPayload := h.idx ▸ hidx
  refine ⟨_, _, _, RxRegs.store_ok.mpr ⟨hidx', rfl, rfl⟩, RxRegs.store_ok.mpr ⟨hidx, rfl, rfl⟩, ?_, h.len, ?_, ?_,
    h.ckrx, fun i hi => ?_⟩
  · simp only [RxRegs.stored_state, h.idx, h.len]
  · simp only [RxRegs.stored_idx, h.idx]
  · simp only [RxRegs.stored_ck, h.ck]
  · by_cases hi' : i = r.idx.toNat
    · subst hi'
      rw [r.read_stored_same, ← h.idx, q.read_stored_same]
    · have hlt : i < r.idx.toNat := by
        have hle : (r.idx + 1).toNat ≤ r.idx.toNat + 1 := by bv_omega
        rw [RxRegs.stored_idx] at hi
        omega
      rw [r.read_stored_other c v hi', q.read_stored_other c v (h.idx ▸ hi'), h.reads i hlt]

theorem RxRegs.Twin.rxJudge (h : q.Twin r) {c : Config} (hlen : r.len.toNat ≤ c.maxPayload)
    (hread : r.len.toNat ≤ r.idx.toNat) : RxTwinResults (rxJudge c q) (rxJudge c r) := by
  have hpayload : q.readUpTo r.len.toNat = r.readUpTo r.len.toNat :=
    RxRegs.readUpTo_congr fun i hi => h.reads i (Nat.lt_of_lt_of_le hi hread)
  rw [rxJudge_of_len_le hlen, rxJudge_of_len_le (h.len ▸ hlen), h.ck, h.ckrx, h.len, hpayload]
  exact .clear c q r _

variable {c : Config} {n : Byte}

theorem RxRegs.Twin.rxByte (h : q.Twin r) (hr : r.Tracks c n) (b : Byte) :
    RxTwinResults (rxByte c n q b) (rxByte c n r b) := by
  unfold Machine.rxByte
  rw [h.state]
  cases hs : r.state with
  | waitStart =>
    dsimp only [rxWaitStart]
    split
    · exact ⟨_, _, _, rfl, rfl, .of_isCleared rfl (q.isCleared_clear c) (r.isCleared_clear c)⟩
    · exact ⟨q, r, _, rfl, rfl, h⟩
  | readLength =>
    dsimp only [rxReadLength]
    split
    · exact .restart c q r b _
    · split
      · exact .restart c q r b _
      · exact h.acceptLength c b
  | readPayload =>
    obtain ⟨⟨-, hmax, -⟩, hlt⟩ := hr.filling (.inl hs)
    dsimp only [rxReadPayload]
    split
    · exact h.withState _
    · split
      · exact .restart c q r b _
      · exact h.store (hlt.trans_le hmax) b
  | readEscapedByte =>
    obtain ⟨⟨-, hmax, -⟩, hlt⟩ := hr.filling (.inr hs)
    dsimp only [rxReadEscapedByte]
    split
    · exact h.store (hlt.trans_le hmax) (c.dec b)
    · exact .restart c q r b _
  | readChecksum =>
    dsimp only [rxReadChecksum]
    split
    · exact h.withState _
    · split
      · exact .restart c q r b _
      · exact h.holdChecksum b
  | readEscapedChecksum =>
    dsimp only [rxReadEscapedChecksum]
    split
    · exact h.holdChecksum (c.dec b)
    · exact .restart c q r b _
  | expectStop =>
    obtain ⟨⟨rfl, hmax, -⟩, hidx⟩ := hr.full (.inr (.inr hs))
    dsimp only [rxExpectStop]
    split
    · exact .restart c q r b _
    · exact h.rxJudge hmax (hidx ▸ Nat.le_refl _)

theorem RxRegs.Twin.rxStep (h : q.Twin r) (hr : r.Tracks c n) (u : RxInput) :
    RxTwinResults (rxStep c n q u) (rxStep c n r u) := by
  cases u with
  | byte b => exact h.rxByte hr b
  | timeout =>
    show RxTwinResults (rxOnTimeout c q) (rxOnTimeout c r)
    unfold rxOnTimeout
    rw [h.state]
    split
    · exact ⟨q, r, _, rfl, rfl, h⟩
    · exact .clear c q r _
  | ioError => exact .clear c q r _

theorem RxRegs.Twin.rxRun (h : q.Twin r) (hr : r.Tracks c n) (us : List RxInput) :
    ∃ q' r' es, rxRun c n q us = .ok (q', es) ∧ rxRun c n r us = .ok (r', es) := by
  induction us generalizing q r with
  | nil => exact ⟨q, r, [], rfl, rfl⟩
  | cons u us ih =>
    obtain ⟨q₁, r₁, e, hq, hr', h'⟩ := h.rxStep hr u
    obtain ⟨q', r', es, hq', hr''⟩ := ih h' (rxStep_keeps_tracks hr hr')
    exact ⟨q', r', e :: es, rxRun_cons hq hq', rxRun_cons hr' hr''⟩

end Twin

/-- Settles O48: every event that is not `None` comes with the cleared values; and twins stay twins, since RX writes
each element of its buffer before it reads it. -/
theorem nothingLeaksBetweenFrames : Obligations.NothingLeaksBetweenFrames := by
  refine ⟨fun c n r r' u e _ => rxStep_isCleared_of_event, fun s t h => ?_, fun c n q r us _ hq hr hs hbetween => ?_⟩
  · cases h
    exact ⟨rfl, rfl, rfl, rfl⟩
  · exact (RxRegs.Twin.of_isCleared hs hq hr).rxRun (.of_between c n hbetween) us

/-! ### Acceptance: a sequence that ends in `FrameOk` and raises nothing before (42_decoder.md R112, R113) -/

/-- Given these bytes RX raises `None` at each but the last and `FrameOk(q)` at the last. -/
inductive RxRegs.Accepts (c : Config) (n : Byte) (q : List Byte) : RxRegs → List Byte → RxRegs → Prop
  | last {r r' : RxRegs} {b : Byte} (step : rxByte c n r b = .ok (r', .frameOk q)) : RxRegs.Accepts c n q r [b] r'
  | more {r r₁ r' : RxRegs} {b : Byte} {bs : List Byte} (step : rxByte c n r b = .ok (r₁, .none))
      (rest : RxRegs.Accepts c n q r₁ bs r') : RxRegs.Accepts c n q r (b :: bs) r'

/-- The events of an accepted sequence of `k` bytes. -/
def acceptEvents (k : Nat) (q : List Byte) : List RxEvent := List.replicate (k - 1) .none ++ [.frameOk q]

theorem acceptEvents_succ {k : Nat} (hk : 0 < k) (q : List Byte) :
    acceptEvents (k + 1) q = .none :: acceptEvents k q := by
  obtain ⟨k, rfl⟩ := Nat.exists_eq_succ_of_ne_zero hk.ne'
  rfl

theorem firstFrame_acceptEvents (k : Nat) (q : List Byte) : firstFrame (acceptEvents k q) = some q := by
  unfold acceptEvents
  induction k - 1 with
  | zero => rfl
  | succ k ih => exact ih

section Accepts

variable {c : Config} {n : Byte} {q : List Byte} {r r' : RxRegs} {bs : List Byte}

theorem RxRegs.Accepts.length_pos (h : r.Accepts c n q bs r') : 0 < bs.length := by
  cases h <;> exact Nat.succ_pos _

theorem rxByte_frameOk {b : Byte} (h : rxByte c n r b = .ok (r', .frameOk q)) :
    r.state = .expectStop ∧ r' = r.clear c := by
  rcases rxByte_cases h with ⟨-, -, -, he⟩ | ⟨-, -, -, he⟩ | ⟨-, -, -, -, he⟩ | ⟨-, -, -, he⟩ | ⟨-, -, -, -, he⟩
    | ⟨-, -, -, -, he⟩ | ⟨-, -, -, he⟩ | ⟨-, -, -, he⟩ | ⟨-, -, -, he⟩ | ⟨-, -, -, -, he⟩
    | ⟨hs, -, -, -, rfl, -⟩ | ⟨-, -, cause, -, he⟩
  case inr.inr.inr.inr.inr.inr.inr.inr.inr.inr.inl => exact ⟨hs, rfl⟩
  all_goals cases he

theorem RxRegs.Accepts.cleared (h : r.Accepts c n q bs r') : r'.state = .waitStart ∧ r'.isCleared c := by
  induction h with
  | @last r _ _ step =>
    obtain ⟨-, rfl⟩ := rxByte_frameOk step
    exact ⟨rfl, r.isCleared_clear c⟩
  | more _ _ ih => exact ih

theorem RxRegs.Accepts.rxRun_eq (h : r.Accepts c n q bs r') :
    rxRun c n r (byteInputs bs) = .ok (r', acceptEvents bs.length q) := by
  induction h with
  | last step => exact rxRun_cons step rfl
  | more step rest ih =>
    rw [List.length_cons, acceptEvents_succ rest.length_pos]
    exact rxRun_cons step ih

theorem RxRegs.accepts_of_rxRun (h : rxRun c n r (byteInputs bs) = .ok (r', acceptEvents bs.length q)) :
    r.Accepts c n q bs r' := by
  induction bs generalizing r with
  | nil =>
    obtain ⟨-, hes⟩ := rxRun_nil_eq h
    cases hes
  | cons b bs ih =>
    obtain ⟨r₁, e, es, hstep, hrest, hes⟩ := rxRun_cons_eq h
    cases bs with
    | nil =>
      obtain ⟨rfl, rfl⟩ := rxRun_nil_eq hrest
      cases hes
      exact .last hstep
    | cons b' bs =>
      rw [List.length_cons, acceptEvents_succ (k := (b' :: bs).length) (Nat.succ_pos _)] at hes
      obtain ⟨rfl, rfl⟩ := List.cons.inj hes
      exact .more hstep (ih hrest)

theorem RxRegs.Accepts.tryReceive_eq (h : r.Accepts c n q bs r') (rest : List RxInput) :
    tryReceive c n r (byteInputs bs ++ rest) = .ok (.payload q, r', rest) := by
  induction h with
  | @last r r' b step =>
    have hstep : rxStep c n r (.byte b) = .ok (r', .frameOk q) := step
    simp only [byteInputs_cons, List.cons_append, tryReceive, hstep]
    rfl
  | @more r r₁ _ b _ step _ ih =>
    have hstep : rxStep c n r (.byte b) = .ok (r₁, .none) := step
    simpa only [byteInputs_cons, List.cons_append, tryReceive, hstep] using ih

end Accepts

/-! ### Frames are accepted (42_decoder.md R112) -/

section FramesAreAccepted

variable {c : Config} {n : Byte} {q : List Byte} {r r' : RxRegs} {bs p : List Byte}

theorem RxRegs.accepts_expectStop (n : Byte) (hs : r.state = .expectStop) (hlen : r.len.toNat ≤ c.maxPayload)
    (hck : r.ck = r.ckrx) : r.Accepts c n (r.readUpTo r.len.toNat) [c.stop] (r.clear c) :=
  .last (by rw [rxByte_expectStop_of_stop hs hlen, if_pos hck])

theorem RxRegs.accepts_readChecksum (n : Byte) (hs : r.state = .readChecksum) (hlen : r.len.toNat ≤ c.maxPayload) :
    r.Accepts c n (r.readUpTo r.len.toNat) (c.stuff r.ck ++ [c.stop]) (r.clear c) := by
  have hheld : (r.holdChecksum r.ck).Accepts c n (r.readUpTo r.len.toNat) [c.stop] (r.clear c) :=
    RxRegs.accepts_expectStop (r := r.holdChecksum r.ck) n rfl hlen rfl
  cases hck : c.isReserved r.ck with
  | true =>
    rw [Config.stuff_of_reserved hck]
    refine .more (rxByte_readChecksum_of_esc hs) (.more (rxByte_readEscapedChecksum_of_reserved rfl ?_) ?_)
    · rwa [c.dec_enc]
    · rwa [c.dec_enc]
  | false =>
    rw [Config.stuff_of_not_reserved hck]
    exact .more (rxByte_readChecksum_of_not_reserved hs hck) hheld

/-- One byte of the payload, raw or escaped, and then what is accepted after `store`. -/
theorem RxRegs.accepts_readPayload {v : Byte} (hs : r.state = .readPayload) (hidx : r.idx.toNat < c.maxPayload)
    (hrest : (r.stored c v).Accepts c n q bs r') : r.Accepts c n q (c.stuff v ++ bs) r' := by
  cases hv : c.isReserved v with
  | true =>
    rw [Config.stuff_of_reserved hv]
    refine .more (rxByte_readPayload_of_esc hs) (.more (rxByte_readEscapedByte_of_reserved rfl hidx ?_) ?_)
    · rwa [c.dec_enc]
    · rwa [c.dec_enc]
  | false =>
    rw [Config.stuff_of_not_reserved hv]
    exact .more (rxByte_readPayload_of_not_reserved hs hidx hv) hrest

/-- The payload field from any byte on, and the rest of the frame. -/
theorem RxRegs.accepts_payload (n : Byte) (hlen : r.len.toNat ≤ c.maxPayload)
    (hs : r.state = if r.idx = r.len then .readChecksum else .readPayload)
    (htotal : r.idx.toNat + p.length = r.len.toNat) :
    ∃ r', r.Accepts c n (r.readUpTo r.idx.toNat ++ p)
      (c.stuffAll p ++ (c.stuff (c.ckFoldFrom r.ck p) ++ [c.stop])) r' := by
  induction p generalizing r with
  | nil =>
    have hend : r.idx = r.len := BitVec.eq_of_toNat_eq htotal
    rw [List.append_nil, hend]
    exact ⟨_, RxRegs.accepts_readChecksum n (hs.trans (if_pos hend)) hlen⟩
  | cons v p ih =>
    rw [List.length_cons] at htotal
    have hlt : r.idx.toNat < r.len.toNat := by omega
    have hmore : r.idx ≠ r.len := fun h => by rw [h] at hlt; exact Nat.lt_irrefl _ hlt
    have hnext : (r.idx + 1).toNat = r.idx.toNat + 1 := by bv_omega
    obtain ⟨r', hrest⟩ := ih (r := r.stored c v) hlen rfl (by rw [RxRegs.stored_idx, hnext, RxRegs.stored_len]; omega)
    rw [RxRegs.readUpTo_idx_stored hlt, List.append_assoc] at hrest
    rw [Config.stuffAll, List.append_assoc]
    exact ⟨r', RxRegs.accepts_readPayload (hs.trans (if_neg hmore)) (hlt.trans_le hlen) hrest⟩

/-- The frame after its `START`. -/
theorem RxRegs.accepts_readLength (hs : r.state = .readLength) (hp : p.length = n.toNat)
    (hmax : n.toNat ≤ c.maxPayload) :
    ∃ r', r.Accepts c n p (frameOf c p).tail r' := by
  rw [frameOf_eq c hp]
  obtain ⟨r', hrest⟩ := RxRegs.accepts_payload (r := r.acceptLength c n) n hmax (if_congr eq_comm rfl rfl)
    ((Nat.zero_add _).trans hp)
  exact ⟨r', .more (rxByte_readLength_of_eq hs hmax) hrest⟩

theorem RxRegs.accepts_frame (hs : r.state = .waitStart) (hp : p.length = n.toNat) (hmax : n.toNat ≤ c.maxPayload) :
    ∃ r', r.Accepts c n p (frameOf c p) r' := by
  obtain ⟨r', hrest⟩ := RxRegs.accepts_readLength (r := r.opened c) rfl hp hmax
  exact ⟨r', .more (rxByte_waitStart_of_start hs) hrest⟩

end FramesAreAccepted

/-! ### The steps of the machine (42_decoder.md R112) -/

theorem step_of_rxInput {s : State} {u : RxInput} {rest : List Input} {r : RxRegs} {e : RxEvent} (hc : s.cfg.wf = true)
    (hp : s.pending = .rx u :: rest) (hx : rxStep s.cfg s.rxN s.rx u = .ok (r, e)) :
    step s = .next ((s.taken rest).withRx r e) := by
  rw [step_of_row hc hp rfl]
  exact exec_rxRow_eq _ hx

/-- Given an accepted sequence, the machine raises nothing until its last byte, where it raises `FrameOk`. -/
theorem steps_of_accepts {c : Config} {n : Byte} {q bs : List Byte} {r r' : RxRegs} {rest : List Input}
    (h : r.Accepts c n q bs r') (hc : c.wf = true) {s : State} (hcfg : s.cfg = c) (hn : s.rxN = n) (hrx : s.rx = r)
    (hp : s.pending = bs.map (fun b => .rx (.byte b)) ++ rest) :
    (∀ k, 1 ≤ k → k < bs.length → ∃ t, steps k s = .next t ∧ t.rxEvent = .none)
    ∧ ∃ t, steps bs.length s = .next t ∧ t.rxEvent = .frameOk q ∧ t.pending = rest ∧ t.rx = r' ∧ t.tx = s.tx := by
  induction h generalizing s with
  | last step =>
    subst hcfg hn hrx
    exact ⟨fun k hk hlt => absurd hlt (Nat.not_lt.mpr hk),
      _, steps_succ (step_of_rxInput hc hp step) 0, rfl, rfl, rfl, rfl⟩
  | @more _ r₁ _ _ bs step _ ih =>
    subst hcfg hn hrx
    have hstep := step_of_rxInput hc hp step
    obtain ⟨hbefore, t, hsteps, ht⟩ :=
      ih (s := (s.taken (bs.map (fun b => .rx (.byte b)) ++ rest)).withRx r₁ .none) rfl rfl rfl rfl
    refine ⟨fun k hk hlt => ?_, t, (steps_succ hstep _).trans hsteps, ht⟩
    obtain ⟨k, rfl⟩ := Nat.exists_eq_add_of_le' hk
    rw [steps_succ hstep]
    cases k with
    | zero => exact ⟨_, rfl, rfl⟩
    | succ k => exact hbefore (k + 1) (Nat.succ_pos k) (Nat.lt_of_succ_lt_succ hlt)

/-- Settles O52: RX accepts the frame, and the machine gives it to RX byte by byte. -/
theorem receivingAFrameGivesItsPayload : Obligations.ReceivingAFrameGivesItsPayload := by
  intro s p rest hc hp hn hs hpending
  obtain ⟨r', haccepts⟩ := RxRegs.accepts_frame hs hn.symm (hn.trans_le hp)
  obtain ⟨hbefore, t, hsteps, hevent, hrest, rfl, htx⟩ := steps_of_accepts haccepts hc rfl rfl rfl hpending
  obtain ⟨hstate, hcleared⟩ := haccepts.cleared
  exact ⟨hbefore, t, hsteps, hevent, hrest, hstate, hcleared, htx⟩

/-! ### The host's receive call (42_decoder.md R119, R122) -/

/-- Settles O59: RX accepts the frame, from where it stands and from reset. -/
theorem receiveCallReturnsThePayload : Obligations.ReceiveCallReturnsThePayload := by
  intro c n r p rest _ hs hp hmax
  obtain ⟨r', haccepts⟩ := RxRegs.accepts_frame hs hp hmax
  obtain ⟨r₀, hreset⟩ := RxRegs.accepts_frame (r := RxRegs.reset c 0) rfl hp hmax
  refine ⟨⟨r', haccepts.tryReceive_eq rest, haccepts.cleared.1⟩, ?_⟩
  simp only [decodeFrame, hreset.rxRun_eq, firstFrame_acceptEvents]

/-! ### Recovery (42_decoder.md R115) -/

theorem rxStep_of_timeout_or_ioError {c : Config} {r : RxRegs} {u : RxInput} (h : RxInv c r)
    (hu : u = .timeout ∨ u = .ioError) (n : Byte) :
    ∃ r' e, rxStep c n r u = .ok (r', e) ∧ r'.state = .waitStart ∧ r'.isCleared c := by
  rcases hu with rfl | rfl
  · obtain ⟨r', e, hstep⟩ := h.rxStep_ok n .timeout
    refine ⟨r', e, hstep, ?_⟩
    rcases rxOnTimeout_event hstep with ⟨hs, rfl, -⟩ | ⟨rfl, -⟩
    · exact ⟨hs, h.isCleared (.inl hs)⟩
    · exact ⟨rfl, r.isCleared_clear c⟩
  · exact ⟨_, _, rfl, rfl, r.isCleared_clear c⟩

/-- Settles O55: each of the three leaves `WaitStart`, where a frame is accepted. -/
theorem recoversAfterTimeout : Obligations.RecoversAfterTimeout := by
  intro c n r u p _ h hu hp hmax
  refine ⟨?_, ?_⟩
  · obtain ⟨r', e, hstep, hs, hcleared⟩ := rxStep_of_timeout_or_ioError h hu n
    obtain ⟨r'', haccepts⟩ := RxRegs.accepts_frame hs hp hmax
    exact ⟨r', e, r'', hstep, hs, hcleared, haccepts.rxRun_eq⟩
  · rintro s t rfl hreset
    cases hreset
    obtain ⟨r'', haccepts⟩ :=
      RxRegs.accepts_frame (r := RxRegs.reset s.cfg (s.rx.epoch + 1)) rfl hp hmax
    exact ⟨rfl, ⟨rfl, rfl, rfl, rfl⟩, r'', haccepts.rxRun_eq⟩

/-! ### Only frames are accepted (42_decoder.md R113) -/

/-- The bytes of a frame up to the unit of the payload that RX reads next. -/
def RxRegs.opening (c : Config) (r : RxRegs) : List Byte := c.start :: r.len :: c.stuffAll (r.readUpTo r.idx.toNat)

/-- The bytes of the frame in flight that RX has consumed, told from its registers. -/
def RxRegs.seen (c : Config) (r : RxRegs) : List Byte :=
  match r.state with
  | .waitStart => []
  | .readLength => [c.start]
  | .readPayload => r.opening c
  | .readEscapedByte => r.opening c ++ [c.esc]
  | .readChecksum => r.opening c
  | .readEscapedChecksum => r.opening c ++ [c.esc]
  | .expectStop => r.opening c ++ c.stuff r.ckrx

/-- What a byte does to the frame in flight, by the event it raises. -/
inductive RxRegs.Follows (c : Config) (n : Byte) (r : RxRegs) (b : Byte) (r' : RxRegs) : RxEvent → Prop
  | reads (state : r'.state ≠ .waitStart) (seen : r'.seen c = r.seen c ++ [b]) : RxRegs.Follows c n r b r' .none
  | waits (state : r.state = .waitStart) (seen : r'.seen c <:+ [b]) : RxRegs.Follows c n r b r' .none
  | drops {cause : Cause} (seen : r'.seen c <:+ [b]) : RxRegs.Follows c n r b r' (.drop cause)
  | accepts {q : List Byte} (frame : r.seen c ++ [b] = frameOf c q) (length : q.length = n.toNat)
      (max : n.toNat ≤ c.maxPayload) (seen : r'.seen c = []) : RxRegs.Follows c n r b r' (.frameOk q)

section Seen

variable {c : Config} {n : Byte} {r r' : RxRegs} {b : Byte} {e : RxEvent} {q bs : List Byte}

theorem RxRegs.seen_of_waitStart (c : Config) (hs : r.state = .waitStart) : r.seen c = [] := by
  simp only [RxRegs.seen, hs]

theorem RxRegs.seen_restart (c : Config) (r : RxRegs) (b : Byte) : (r.restart c b).seen c <:+ [b] := by
  unfold RxRegs.restart
  split_ifs with hb
  · exact hb ▸ List.suffix_refl _
  · exact List.nil_suffix

theorem RxRegs.seen_acceptLength (c : Config) (r : RxRegs) (l : Byte) :
    (r.acceptLength c l).state ≠ .waitStart ∧ (r.acceptLength c l).seen c = [c.start, l] := by
  by_cases hzero : l = 0
  · simp only [RxRegs.seen, RxRegs.acceptLength_state, if_pos hzero]
    exact ⟨nofun, rfl⟩
  · simp only [RxRegs.seen, RxRegs.acceptLength_state, if_neg hzero]
    exact ⟨nofun, rfl⟩

/-- `store(v)` closes a unit of the payload. -/
theorem RxRegs.seen_stored (c : Config) (v : Byte) (hlt : r.idx.toNat < r.len.toNat) :
    (r.stored c v).state ≠ .waitStart ∧ (r.stored c v).seen c = r.opening c ++ c.stuff v := by
  have hopening : (r.stored c v).opening c = r.opening c ++ c.stuff v := by
    rw [RxRegs.opening, RxRegs.readUpTo_idx_stored hlt, c.stuffAll_append, c.stuffAll_singleton]
    rfl
  by_cases hlast : r.idx + 1 = r.len
  · simp only [RxRegs.seen, RxRegs.stored_state, if_pos hlast]
    exact ⟨nofun, hopening⟩
  · simp only [RxRegs.seen, RxRegs.stored_state, if_neg hlast]
    exact ⟨nofun, hopening⟩

theorem RxRegs.seen_holdChecksum (c : Config) (r : RxRegs) (v : Byte) :
    (r.holdChecksum v).seen c = r.opening c ++ c.stuff v := rfl

/-- A frame is what has been seen when `STOP` comes and the checksums agree. -/
theorem RxRegs.opening_eq_frameOf (h : r.isInFlight c n) (hidx : r.idx = n) (hck : r.ckrx = r.ck) :
    r.opening c ++ c.stuff r.ckrx ++ [c.stop] = frameOf c (r.readUpTo r.len.toNat) := by
  obtain ⟨rfl, -, hsum⟩ := h
  rw [frameOf_eq (n := r.len) c (by simp [RxRegs.readUpTo]), hck, hsum, RxRegs.opening, hidx]
  simp

theorem rxByte_follows (h : r.Tracks c n) (hx : rxByte c n r b = .ok (r', e)) : r.Follows c n b r' e := by
  rcases rxByte_cases hx with ⟨hs, rfl, rfl, rfl⟩ | ⟨hs, -, rfl, rfl⟩ | ⟨hs, -, rfl, rfl, rfl⟩ | ⟨hs, rfl, rfl, rfl⟩
    | ⟨hs, hb, -, rfl, rfl⟩ | ⟨hs, hb, -, rfl, rfl⟩ | ⟨hs, rfl, rfl, rfl⟩ | ⟨hs, hb, rfl, rfl⟩ | ⟨hs, hb, rfl, rfl⟩
    | ⟨-, -, -, rfl, rfl⟩ | ⟨hs, rfl, hck, -, rfl, rfl⟩ | ⟨-, rfl, cause, -, rfl⟩
  · exact .waits hs (List.suffix_refl _)
  · exact .waits hs (RxRegs.seen_of_waitStart c hs ▸ List.nil_suffix)
  · obtain ⟨hs', hseen⟩ := r.seen_acceptLength c b
    exact .reads hs' (by rw [hseen, RxRegs.seen, hs]; rfl)
  · exact .reads nofun (by simp only [RxRegs.seen, hs]; rfl)
  · obtain ⟨⟨rfl, -⟩, hlt⟩ := h.filling (.inl hs)
    obtain ⟨hs', hseen⟩ := r.seen_stored c b hlt
    exact .reads hs' (by rw [hseen, RxRegs.seen, hs, Config.stuff_of_not_reserved hb])
  · obtain ⟨⟨rfl, -⟩, hlt⟩ := h.filling (.inr hs)
    obtain ⟨hs', hseen⟩ := r.seen_stored c (c.dec b) hlt
    exact .reads hs' (by rw [hseen, RxRegs.seen, hs, Config.stuff_of_reserved hb, c.enc_dec]; exact List.append_cons ..)
  · exact .reads nofun (by simp only [RxRegs.seen, hs]; rfl)
  · exact .reads nofun (by rw [r.seen_holdChecksum, RxRegs.seen, hs, Config.stuff_of_not_reserved hb])
  · exact .reads nofun (by
      rw [r.seen_holdChecksum, RxRegs.seen, hs, Config.stuff_of_reserved hb, c.enc_dec]; exact List.append_cons ..)
  · exact .drops List.nil_suffix
  · obtain ⟨hflight, hidx⟩ := h.full (.inr (.inr hs))
    have hframe := RxRegs.opening_eq_frameOf hflight hidx hck
    obtain ⟨rfl, hmax, -⟩ := hflight
    exact .accepts (by rw [RxRegs.seen, hs]; exact hframe) (by simp [RxRegs.readUpTo]) hmax rfl
  · exact .drops (r.seen_restart c b)

/-- In a frame, what is accepted completes what has been seen to a frame. -/
theorem RxRegs.Accepts.eq_frameOf (h : r.Accepts c n q bs r') (hr : r.Tracks c n) (hs : r.state ≠ .waitStart) :
    r.seen c ++ bs = frameOf c q ∧ q.length = n.toNat ∧ n.toNat ≤ c.maxPayload := by
  induction h with
  | last step =>
    cases rxByte_follows hr step with
    | accepts frame length max _ => exact ⟨frame, length, max⟩
  | more step _ ih =>
    cases rxByte_follows hr step with
    | reads hs' hseen =>
      have hrest := ih (rxByte_keeps_tracks hr step) hs'
      rwa [hseen, List.append_assoc] at hrest
    | waits hs' _ => exact absurd hs' hs

/-- Settles O53: RX accepts the frames, and each byte it consumes silently within a frame is the one a
frame has there. -/
theorem onlyFramesAreAccepted : Obligations.OnlyFramesAreAccepted := by
  intro c n r bs q _ hs hstart
  constructor
  · rintro ⟨r', hrun⟩
    obtain ⟨bs, rfl⟩ := List.head?_eq_some_iff.mp hstart
    cases RxRegs.accepts_of_rxRun hrun with
    | last step => rw [rxByte_waitStart_of_start hs] at step; cases step
    | more step rest =>
      rw [rxByte_waitStart_of_start hs] at step
      cases step
      obtain ⟨hframe, hlength, hmax⟩ := rest.eq_frameOf (.of_between c n (.inr rfl)) nofun
      exact ⟨(encodeFrame_of_le (hlength.trans_le hmax)).trans (congrArg _ hframe.symm), hlength⟩
  · rintro ⟨hframe, hlength⟩
    by_cases hmax : q.length ≤ c.maxPayload
    · rw [encodeFrame_of_le hmax] at hframe
      obtain rfl := Except.ok.inj hframe
      obtain ⟨r', haccepts⟩ := RxRegs.accepts_frame hs hlength (hlength ▸ hmax)
      exact ⟨r', haccepts.rxRun_eq⟩
    · rw [encodeFrame_of_gt (Nat.lt_of_not_le hmax)] at hframe
      cases hframe

/-! ### Resynchronisation (42_decoder.md R114) -/

/-- A `FrameOk` of a run is a frame in the bytes given, or one that RX had begun to read before. -/
theorem frameOf_mem_of_frameOk_mem {es : List RxEvent} (h : r.Tracks c n)
    (hx : rxRun c n r (byteInputs bs) = .ok (r', es)) (hq : .frameOk q ∈ es) :
    q.length = n.toNat ∧ (frameOf c q <+: r.seen c ++ bs ∨ frameOf c q <:+: bs) := by
  induction bs generalizing r es with
  | nil =>
    obtain ⟨-, rfl⟩ := rxRun_nil_eq hx
    cases hq
  | cons b bs ih =>
    obtain ⟨r₁, e, es, hstep, hrest, rfl⟩ := rxRun_cons_eq hx
    have hfollows := rxByte_follows h hstep
    rcases List.mem_cons.mp hq with rfl | hq
    · cases hfollows with
      | accepts frame length _ _ => exact ⟨length, .inl ⟨bs, by rw [← frame, List.append_assoc]; rfl⟩⟩
    · obtain ⟨hlength, hfront | hwithin⟩ := ih (rxByte_keeps_tracks h hstep) hrest hq
      · have hseen : r₁.seen c = r.seen c ++ [b] ∨ r₁.seen c <:+ [b] := by
          cases hfollows with
          | reads _ seen => exact .inl seen
          | waits _ seen => exact .inr seen
          | drops seen => exact .inr seen
          | accepts _ _ _ seen => exact .inr (seen ▸ List.nil_suffix)
        refine ⟨hlength, hseen.imp (fun hseen => ?_) fun hseen => ?_⟩
        · rwa [hseen, List.append_assoc] at hfront
        · obtain ⟨y, hy⟩ := hseen
          have hsuffix : r₁.seen c ++ bs <:+ b :: bs := ⟨y, by rw [← List.append_assoc, hy]; rfl⟩
          exact hfront.isInfix.trans hsuffix.isInfix
      · exact ⟨hlength, .inr (hwithin.trans (List.suffix_cons b bs).isInfix)⟩

/-- `START` opens a frame from every state that does not consume it as a length or as a stop marker. -/
theorem rxByte_start_opens (hc : c.wf = true) (hlength : ¬ (r.state = .readLength ∧ c.start = n))
    (hstop : ¬ (r.state = .expectStop ∧ c.start = c.stop)) :
    ∃ r' e, rxByte c n r c.start = .ok (r', e) ∧ r'.state = .readLength := by
  have hopens (cause : Cause) (h : rxByte c n r c.start = .ok (r.resync c c.start cause)) :
      ∃ r' e, rxByte c n r c.start = .ok (r', e) ∧ r'.state = .readLength :=
    ⟨_, _, h, (r.restart_state c c.start).trans (if_pos rfl)⟩
  have hesc : c.start ≠ c.esc := (c.esc_ne_start hc).symm
  have hdec : c.isReserved (c.dec c.start) = false := c.isReserved_enc hc c.isReserved_start
  cases hs : r.state with
  | waitStart => exact ⟨_, _, rxByte_waitStart_of_start hs, rfl⟩
  | readLength =>
    exact ⟨_, _, rxByte_readLength_drops hs fun h => hlength ⟨hs, h⟩, (r.restart_state ..).trans (if_pos rfl)⟩
  | readPayload => exact hopens _ (rxByte_readPayload_of_reserved hs hesc c.isReserved_start)
  | readEscapedByte => exact hopens _ (rxByte_readEscapedByte_of_not_reserved hs hdec)
  | readChecksum => exact hopens _ (rxByte_readChecksum_of_reserved hs hesc c.isReserved_start)
  | readEscapedChecksum => exact hopens _ (rxByte_readEscapedChecksum_of_not_reserved hs hdec)
  | expectStop => exact hopens _ (rxByte_expectStop_of_ne hs fun h => hstop ⟨hs, h⟩)

/-- A frame whose `START` is not consumed otherwise is accepted, whatever RX was in the middle of. -/
theorem rxRun_frame_getLast? {p : List Byte} {es : List RxEvent} (hc : c.wf = true) (hp : p.length = n.toNat)
    (hmax : n.toNat ≤ c.maxPayload) (hlength : ¬ (r.state = .readLength ∧ c.start = n))
    (hstop : ¬ (r.state = .expectStop ∧ c.start = c.stop))
    (hx : rxRun c n r (byteInputs (frameOf c p)) = .ok (r', es)) : es.getLast? = some (.frameOk p) := by
  obtain ⟨r₁, e, hstep, hs₁⟩ := rxByte_start_opens hc hlength hstop
  obtain ⟨r₂, haccepts⟩ := RxRegs.accepts_readLength hs₁ hp hmax
  have hrun : rxRun c n r (byteInputs (frameOf c p)) = .ok (r₂, e :: acceptEvents (frameOf c p).tail.length p) :=
    rxRun_cons hstep haccepts.rxRun_eq
  cases hrun.symm.trans hx
  exact List.getLast?_concat (l := e :: List.replicate _ .none)

/-- Settles O54: the first frame is accepted, no run faults, and `START` opens the second frame where it is not
consumed. -/
theorem resynchronisesAfterGarbage : Obligations.ResynchronisesAfterGarbage := by
  intro c n r p₁ p₂ g hc hs hp₁ hp₂ hmax
  obtain ⟨r₁, haccepts⟩ := RxRegs.accepts_frame hs hp₁ hmax
  have hs₁ : r₁.state = .waitStart := haccepts.cleared.1
  have htracks₁ : r₁.Tracks c n := .of_between c n (.inl hs₁)
  obtain ⟨r₂, eg, hg, htracks₂⟩ := htracks₁.rxRun_ok (byteInputs g)
  obtain ⟨r₃, e₂, h₂, -⟩ := htracks₂.rxRun_ok (byteInputs (frameOf c p₂))
  refine ⟨r₁, r₂, r₃, eg, e₂, haccepts.rxRun_eq, hg, h₂, ?_, fun hfill => ?_, fun hlength hstop => ?_, fun q hq => ?_⟩
  · rw [byteInputs_append, byteInputs_append]
    exact rxRun_append (rxRun_append haccepts.rxRun_eq hg) h₂
  · cases (rxRun_byteInputs_of_isFill n hs₁ hfill).symm.trans hg
    obtain ⟨r', haccepts₂⟩ := RxRegs.accepts_frame hs₁ hp₂ hmax
    cases haccepts₂.rxRun_eq.symm.trans h₂
    exact ⟨rfl, hs₁, rfl⟩
  · exact rxRun_frame_getLast? hc hp₂ hmax hlength hstop h₂
  · obtain ⟨hlength, hfront | hwithin⟩ := frameOf_mem_of_frameOk_mem htracks₁ hg hq
    · rw [RxRegs.seen_of_waitStart c hs₁] at hfront
      obtain ⟨g₂, hg₂⟩ := hfront
      exact ⟨[], g₂, hg₂.symm, hlength⟩
    · obtain ⟨g₁, g₂, hg₂⟩ := hwithin
      exact ⟨g₁, g₂, hg₂.symm, hlength⟩

end Seen

/-! ### Single-bit damage (42_decoder.md R117) -/

theorem ne_xor_bit (w : Byte) {k : Nat} (hk : k < 8) : w ≠ w ^^^ (1#8 <<< k) := by
  have hbit : ∀ k < 8, 0#8 ≠ 1#8 <<< k := by decide
  intro h
  exact hbit k hk ((BitVec.xor_right_inj w).mp (BitVec.xor_zero.trans h))

/-- After `START` and the size RX has read no more of a frame than that: what it accepts later has these two bytes in
front, or stands in what follows them. -/
theorem frameOk_not_mem_of_damage {c : Config} {n : Byte} {r r' : RxRegs} {p x y : List Byte} {w w' : Byte}
    {es : List RxEvent} (hc : c.wf = true) (hs : r.state = .waitStart) (hp : p.length = n.toNat)
    (hmax : n.toNat ≤ c.maxPayload) (hne : w ≠ w') (hfields : c.stuffAll (c.fields p) = x ++ w :: y)
    (hx : rxRun c n r (byteInputs (c.start :: n :: (x ++ w' :: y ++ [c.stop]))) = .ok (r', es)) (q : List Byte) :
    .frameOk q ∉ es := by
  obtain ⟨r₁, e₁, es, hstart, hrest, rfl⟩ := rxRun_cons_eq hx
  cases (rxByte_waitStart_of_start hs).symm.trans hstart
  obtain ⟨r₂, e₂, es, hlength, hfieldsRun, rfl⟩ := rxRun_cons_eq hrest
  cases (rxByte_readLength_of_eq (r := r.opened c) rfl hmax).symm.trans hlength
  intro hmem
  have hq : .frameOk q ∈ es := by simpa using hmem
  obtain ⟨hlen, hfront | hwithin⟩ := frameOf_mem_of_frameOk_mem (.acceptLength _ hmax) hfieldsRun hq
  · obtain ⟨-, hseen⟩ := RxRegs.seen_acceptLength c (r.opened c) n
    rw [hseen] at hfront
    exact not_frame_at_front_of_damage hc hp hlen hne hfields hfront
  · exact not_frame_within_damage hc hp hlen hfields hwithin

/-- Settles O57: the run does not fault; and a frame in the damaged bytes would be one whose fields differ from those of
the payload in one value, or would have more units than there are. -/
theorem singleBitDamageIsRejected : Obligations.SingleBitDamageIsRejected := by
  intro c n r p a z w k hc hs hp hmax hframe ha hz hk
  obtain ⟨start, size, x, rfl⟩ : ∃ start size x, a = start :: size :: x := by
    match a, ha with
    | start :: size :: x, _ => exact ⟨start, size, x, rfl⟩
  obtain ⟨y, stop, rfl⟩ : ∃ y stop, z = y ++ [stop] := ⟨_, _, (List.dropLast_append_getLast hz).symm⟩
  rw [frameOf_eq_fields c hp] at hframe
  simp only [List.cons_append, List.cons.injEq] at hframe
  obtain ⟨rfl, rfl, hframe⟩ := hframe
  rw [← List.append_assoc] at hframe
  obtain ⟨hfields, hstop⟩ := List.append_inj' hframe rfl
  obtain rfl := (List.cons.inj hstop).1
  rw [List.append_assoc] at hfields
  obtain ⟨r', es, hrun, -⟩ := (RxRegs.Tracks.of_between c n (.inl hs)).rxRun_ok
    (byteInputs (c.start :: n :: x ++ [w ^^^ (1#8 <<< k)] ++ (y ++ [c.stop])))
  refine ⟨r', es, hrun, frameOk_not_mem_of_damage (r' := r') (y := y) hc hs hp hmax (ne_xor_bit w hk) hfields ?_⟩
  simpa using hrun

end Sys2Proof.Machine
end

section
/-! Proofs about the core at rest (60_exceptions.md R147): a step with no input to take. -/

open Sys2Proof Sys2Proof.Machine Sys2Proof.Claims

namespace Sys2Proof.Machine

/-- Clearing the outputs leaves every register, both buffers and both streams: it is answering no result. -/
theorem State.quiet_frame (s : State) : PureFrame s s.quiet := s.withResult_frame .none

/-- Settles O39: with nothing pending a step only clears the outputs. -/
theorem atRestNothingChanges : Obligations.AtRestNothingChanges := fun s hc hp =>
  ⟨s.quiet, step_of_pending_nil hc hp, s.quiet_frame, s.quiet_result⟩

end Sys2Proof.Machine
end

section
/-! Proofs about `RESET` and about where `RX_N` is read (70_reset_and_hazards.md R148, R156). -/

open Sys2Proof Sys2Proof.Machine

namespace Sys2Proof.Machine

/-- Settles O1: the row's one update writes each of these values, whatever state it is applied in. -/
theorem resetGivesTheResetValues : Obligations.ResetGivesTheResetValues := fun _ =>
  ⟨_, rfl, rfl, rfl, rfl, rfl, rfl, rfl, rfl, rfl, rfl, rfl, rfl, rfl, rfl, rfl⟩

/-- Only the rule of `ReadLength` has `RX_N` among its arguments (42_decoder.md R100). -/
theorem rxByte_rxN_congr {r : RxRegs} (hs : r.state ≠ .readLength) (c : Config) (n m b : Byte) :
    rxByte c n r b = rxByte c m r b := by
  cases hq : r.state with
  | readLength => exact absurd hq hs
  | waitStart | readPayload | readEscapedByte | readChecksum | readEscapedChecksum | expectStop =>
    simp only [rxByte, hq]

/-- The inputs that are not bytes do not read `RX_N` in any state (42_decoder.md R108, R109). -/
theorem rxStep_rxN_congr {r : RxRegs} (hs : r.state ≠ .readLength) (c : Config) (n m : Byte) (u : RxInput) :
    rxStep c n r u = rxStep c m r u := by
  cases u with
  | byte b => exact rxByte_rxN_congr hs c n m b
  | timeout | ioError => rfl

/-- Settles O47: outside `ReadLength` the step of RX is the same under either `RX_N`, and a step of RX does not write
`RX_N`. -/
theorem rxNIsReadAtTheLengthOnly : Obligations.RxNIsReadAtTheLengthOnly := by
  intro s t n u _ hs h
  obtain ⟨r, e, hr, rfl⟩ := exec_rxRow_eq_next_iff.mp h
  exact exec_rxRow_eq_next_iff.mpr ⟨r, e, (rxStep_rxN_congr hs s.cfg n s.rxN u).trans hr, rfl⟩

end Sys2Proof.Machine
end
